-- ==== Sys2Proof/Word.lean ====
section
/-! DEFINITION. The three widths among the parameters of R10, on which the types of the rules rest; the byte,
the sample and the sample counter (R12, R13, R146); the small closed sets of R13; the line identifiers of
R27. The other parameters stand in Machine/Params.lean and Config.lean. -/

namespace Sys2Proof.Params

/-- `CTR_WIDTH`, bits of the sample counter (R10, R146). -/
abbrev ctrWidth : Nat := 16

/-- `SAMPLE_WIDTH`, bits of a sample and lines of the data bus (R10, R144). -/
abbrev sampleWidth : Nat := 8

/-- `N_SEL`, the count of analog select lines (R10). -/
abbrev nSel : Nat := 2

end Sys2Proof.Params

namespace Sys2Proof

/-- A byte, 8 bits, unsigned (R12). -/
abbrev Byte := BitVec 8

/-- `Ctr`, the sample counter's type: `CTR_WIDTH` bits, unsigned (R10, R13, R26). -/
abbrev Ctr := BitVec Params.ctrWidth

/-- A sample, `SAMPLE_WIDTH` bits: "one byte" (R10, R144). -/
abbrev Sample := BitVec Params.sampleWidth

/-- `Level` (R13). `on` is the electrically high level on every line (R29). -/
inductive Level where
  | on
  | off
  deriving DecidableEq, Repr, Inhabited

/-- `Dir` (R13). `in` is a word of Lean, hence the longer names. -/
inductive Dir where
  | input
  | output
  deriving DecidableEq, Repr

/-- `Polarity` (R13). -/
inductive Polarity where
  | rising
  | falling
  deriving DecidableEq, Repr

/-- `Speed` (R13). -/
inductive Speed where
  | normal
  | fast
  deriving DecidableEq, Repr

/-- `Mult`, the PLL multipliers 2, 4 and 8 and no other value (R13, R24). -/
inductive Mult where
  | two
  | four
  | eight
  deriving DecidableEq, Repr

/-- The seventeen lines of R27. -/
inductive Line where
  /-- `L_TRIG`, trigger-enable. -/
  | trig
  /-- `L_FORCE`, force-override. -/
  | force
  /-- `L_EDGE`, edge-polarity select. -/
  | edge
  /-- `L_RDEN`, capture-buffer-read-enable. -/
  | rden
  /-- `L_SCLK`, sample-clock. -/
  | sclk
  /-- `L_FILL`, fill-complete-sense. -/
  | fill
  /-- `L_SEL0` and `L_SEL1`, analog-select lines. -/
  | sel (i : Fin Params.nSel)
  /-- `L_DACCS`, the DAC's chip-select, asserted when `off` (R30). -/
  | daccs
  /-- `L_DATA[i]`, data bus. -/
  | data (i : Fin Params.sampleWidth)
  deriving DecidableEq, Repr

/-- The level a bit stands for: a line reading `ON` gives a 1 bit (R107). -/
def Level.ofBit (b : Bool) : Level := if b then .on else .off

@[simp] theorem Level.ofBit_true : Level.ofBit true = .on := rfl
@[simp] theorem Level.ofBit_false : Level.ofBit false = .off := rfl

end Sys2Proof
end

