-- ==== Sys2Proof/Config.lean ====
section
/-! DEFINITION. What the spec leaves OPEN (R10, and the list at the end of 92_eei_decisions.md), and the
free values of the model. Every opaque constant here has no body: nothing can be proved of its value.
The parameters that have a value stand in Machine/Params.lean. -/

namespace Sys2Proof.Config

/-- The level on `L_EDGE` that selects the rising edge. OPEN (R176; log 11). -/
opaque edgeRising : Level

/-- The other of the two levels. -/
def otherLevel : Level → Level
  | .on => .off
  | .off => .on

/-- `EDGE_LEVEL`, OPEN and injective (R10, R176). One free level gives both injective maps (log 11). -/
def edgeLevel : Polarity → Level
  | .rising => edgeRising
  | .falling => otherLevel edgeRising

/-- `BUS_MAP`, OPEN: which bit of a sample byte the data-bus line carries, a bijection (R10, R107; log 12). -/
opaque busMap : Equiv.Perm (Fin Params.sampleWidth)

/-- `BAUD_NORMAL` in bits per second. OPEN (R10, R59; log 13). -/
opaque baudNormal : Nat

/-- The figure from which `BAUD_FAST` is made. OPEN (log 13). -/
opaque baudFastRaw : Nat

/-- `BAUD_FAST`: any number but `BAUD_NORMAL` (R10 "OPEN, distinct"; log 13). -/
def baudFast : Nat := if baudFastRaw = baudNormal then baudNormal + 1 else baudFastRaw

/-- The bits per second a rate selector stands for: "two fixed baud settings" (R59). -/
def baud : Speed → Nat
  | .normal => baudNormal
  | .fast => baudFast

/-- Free value: the level found on an input line that nothing is known to drive, at the n-th free
input (R62, R103; U5, U16; log 4). -/
opaque freeLevel : Nat → Line → Level

/-- Free value: the sample byte found on the data bus when nothing is known of it, at the n-th free
input (R62, R107; U6; log 4). -/
opaque freeSample : Nat → Sample

/-- Free value: the byte the DAC shifts back during an `Exchange`, at the n-th free input (R60; U7; log 4). -/
opaque freeShiftIn : Nat → Byte

end Sys2Proof.Config
end

