-- ==== Sys2Proof/Machine/Params.lean ====
section
/-! DEFINITION. The parameters of R10 that have a value. "A model should take the document's value as the default
and state its claims for that value": each literal is written once, here, under its name (log 23). The
three widths, on which types rest, stand in Word.lean (`Params.ctrWidth`, `sampleWidth`, `nSel`), and
`MULT_CODES` in Machine/Operands.lean. -/

namespace Sys2Proof.Params

/-! ## The command alphabet: `CMD_*` (R10, R83; the codes are ASCII, log 14) -/

/-- `v`. -/
def cmdVersion : Byte := 0x76#8

/-- `r`. -/
def cmdSetmult : Byte := 0x72#8

/-- `t`. -/
def cmdSetdac : Byte := 0x74#8

/-- `C`. -/
def cmdCapture : Byte := 0x43#8

/-- `f`. -/
def cmdFcapture : Byte := 0x66#8

/-- `s`. -/
def cmdSend : Byte := 0x73#8

/-- `i`. -/
def cmdSetedge : Byte := 0x69#8

/-- `B`. -/
def cmdTogbaud : Byte := 0x42#8

/-- `STOP_BYTE`, the byte `n`. -/
def stopByte : Byte := 0x6E#8

/-- The sub-code `r` of `SETEDGE` (R86). -/
def subRising : Byte := 0x72#8

/-- The sub-code `f` of `SETEDGE` (R86). -/
def subFalling : Byte := 0x66#8

/-! ## The others -/

/-- `MAX_SAMPLES` (R10, R147). -/
def maxSamples : Ctr := 65535#Params.ctrWidth

/-- `SETTLE_US`, microseconds (R10, R125). -/
def settleUs : Nat := 10

/-- `ACK_BYTE`, the byte `C` (R10, R129; log 14). -/
def ackByte : Byte := 0x43#8

/-- `VERSION_STR`, the sixteen bytes of "DSO Version 2.0" and a newline, no terminating zero (R88, R164). -/
def versionStr : List Byte :=
  [0x44#8, 0x53#8, 0x4F#8, 0x20#8, 0x56#8, 0x65#8, 0x72#8, 0x73#8,
   0x69#8, 0x6F#8, 0x6E#8, 0x20#8, 0x32#8, 0x2E#8, 0x30#8, 0x0A#8]

/-- `VERSION_STR[k]`. -/
def versionByte (k : Fin 16) : Byte := versionStr.getD k.val 0#8

/-- `DAC_CMD` (R10, R89). -/
def dacCmd : BitVec 16 := 0x3000#16

/-- `DEF_MULT` (R10). -/
def defMult : Mult := .two

/-- `DEF_DAC` (R10). -/
def defDac : Byte := 127#8

/-- `DEF_POL` (R10). -/
def defPol : Polarity := .rising

/-- `DEF_SPEED` (R10). -/
def defSpeed : Speed := .normal

end Sys2Proof.Params
end

