-- ==== Sys2Proof/Syntax.lean ====
section
/-! DEFINITION. The commands of DSO-CMD 2.0, one constructor per row of spec/opcode_table.json (R83), and the
host's notation for command streams (R91). -/

namespace Sys2Proof

/-- The nine commands (R83). `p` is the parameter byte of the `CMD1` commands (R80, R84): every one of
its 256 values is an instruction, none is reserved or illegal (R87). -/
inductive Instr where
  | version
  | setmult (p : Byte)
  | setdac (p : Byte)
  | capture
  | fcapture
  | send
  | setedge (p : Byte)
  | togbaud
  | stop
  deriving DecidableEq, Repr

/-- The two formats (R80). -/
inductive Format where
  | cmd0
  | cmd1
  deriving DecidableEq, Repr

/-- The nine mnemonics (R83), as the notation of R91 writes them. -/
inductive Mnemonic where
  | version
  | setmult
  | setdac
  | capture
  | fcapture
  | send
  | setedge
  | togbaud
  | stop
  deriving DecidableEq, Repr

/-- An item of a command stream (R91). An operand is a number however it is spelled (decimal, `0xHH`
or a character in single quotes). -/
inductive Item where
  /-- A mnemonic alone. -/
  | bare (m : Mnemonic)
  /-- A mnemonic and its operand. -/
  | operand (m : Mnemonic) (n : Nat)
  /-- `.byte 0xHH`. -/
  | byte (n : Nat)
  /-- `SETEDGE RISING`. -/
  | edgeRising
  /-- `SETEDGE FALLING`. -/
  | edgeFalling
  deriving DecidableEq, Repr

end Sys2Proof
end

