-- ==== Sys2Proof/WellFormed.lean ====
section
/-! DEFINITION. Which items of a command stream are well formed (R91). A term of `Instr` needs no check: its
only operand is a byte, and every byte is a legal parameter (R84, R87: "there is no illegal encoding").
An `Item`, the host's notation, can be wrong in four ways, and each is refused here. -/

namespace Sys2Proof

/-- The format of a mnemonic's command (R83). -/
def Mnemonic.format : Mnemonic → Format
  | .version => .cmd0
  | .setmult => .cmd1
  | .setdac => .cmd1
  | .capture => .cmd0
  | .fcapture => .cmd0
  | .send => .cmd0
  | .setedge => .cmd1
  | .togbaud => .cmd0
  | .stop => .cmd0

/-- A mnemonic stands alone exactly when its command is `CMD0`, takes an operand exactly when it is
`CMD1`, and an operand or a `.byte` is a number 0..255 (R91). -/
def Item.wellFormed : Item → Bool
  | .bare m => m.format == .cmd0
  | .operand m n => m.format == .cmd1 && n < 256
  | .byte n => n < 256
  | .edgeRising => true
  | .edgeFalling => true

end Sys2Proof
end

