-- ==== Sys2Proof/Decode.lean ====
section
/-! DEFINITION. The command map of R83 read in both directions: the decoder, total on any bytes and rejecting by
name (R80 to R87), the encoder, the assembly of a command stream (R91), and the table's numbering of an
instruction's bits. -/

namespace Sys2Proof

/-- What the dispatcher makes of a first byte. -/
inductive Head where
  /-- A whole `CMD0` command. -/
  | whole (i : Instr)
  /-- The first byte of a `CMD1` command: a parameter byte follows. -/
  | wantsParam
  /-- One of the 247 byte values that have no row (R87). -/
  | unrecognised
  deriving DecidableEq, Repr

/-- The length of a command is decided by its first byte alone (R81); all eight bits are matched (R83). -/
def head (b : Byte) : Head :=
  if b = Params.cmdVersion then .whole .version
  else if b = Params.cmdSetmult then .wantsParam
  else if b = Params.cmdSetdac then .wantsParam
  else if b = Params.cmdCapture then .whole .capture
  else if b = Params.cmdFcapture then .whole .fcapture
  else if b = Params.cmdSend then .whole .send
  else if b = Params.cmdSetedge then .wantsParam
  else if b = Params.cmdTogbaud then .whole .togbaud
  else if b = Params.stopByte then .whole .stop
  else .unrecognised

/-- A command byte and the parameter byte taken after it (R83, R84): `none` where the first is no `CMD1`
command byte. -/
def withParam (op p : Byte) : Option Instr :=
  if op = Params.cmdSetmult then some (.setmult p)
  else if op = Params.cmdSetdac then some (.setdac p)
  else if op = Params.cmdSetedge then some (.setedge p)
  else none

/-- Why bytes are no instruction. -/
inductive Reject where
  /-- There is no byte. -/
  | noByte
  /-- The first byte has no row: the dispatcher ignores it (R87, R180). -/
  | unrecognised (b : Byte)
  /-- The parameter byte has not arrived (R162). -/
  | missingParam (op : Byte)
  deriving DecidableEq, Repr

/-- The instruction at the front of a byte stream, first byte received first, and the bytes after it. -/
def decode : List Byte → Except Reject (Instr × List Byte)
  | [] => .error .noByte
  | b :: rest =>
    match head b with
    | .whole i => .ok (i, rest)
    | .unrecognised => .error (.unrecognised b)
    | .wantsParam =>
      match rest with
      | [] => .error (.missingParam b)
      | p :: rest' =>
        match withParam b p with
        | some i => .ok (i, rest')
        | none => .error (.unrecognised b)

/-- A byte stream read from its front as the dispatcher reads it: unrecognised bytes are one byte long
and dropped (R81, R87), and a `CMD1` command byte at the very end waits for its parameter (R162). -/
def decodeStream : List Byte → List Instr
  | [] => []
  | [b] =>
    match head b with
    | .whole i => [i]
    | .wantsParam => []
    | .unrecognised => []
  | b :: p :: rest =>
    match head b with
    | .whole i => i :: decodeStream (p :: rest)
    | .unrecognised => decodeStream (p :: rest)
    | .wantsParam =>
      match withParam b p with
      | some i => i :: decodeStream rest
      | none => decodeStream rest

/-- The command byte of an instruction (R83; the codes are ASCII, log 14). -/
def opByte : Instr → Byte
  | .version => Params.cmdVersion
  | .setmult _ => Params.cmdSetmult
  | .setdac _ => Params.cmdSetdac
  | .capture => Params.cmdCapture
  | .fcapture => Params.cmdFcapture
  | .send => Params.cmdSend
  | .setedge _ => Params.cmdSetedge
  | .togbaud => Params.cmdTogbaud
  | .stop => Params.stopByte

/-- The bytes of an instruction in wire order (R80, R83). -/
def encode (i : Instr) : List Byte :=
  match i with
  | .setmult p => [opByte i, p]
  | .setdac p => [opByte i, p]
  | .setedge p => [opByte i, p]
  | .version => [opByte i]
  | .capture => [opByte i]
  | .fcapture => [opByte i]
  | .send => [opByte i]
  | .togbaud => [opByte i]
  | .stop => [opByte i]

/-- The byte of a mnemonic (R83). -/
def Mnemonic.byte : Mnemonic → Byte
  | .version => Params.cmdVersion
  | .setmult => Params.cmdSetmult
  | .setdac => Params.cmdSetdac
  | .capture => Params.cmdCapture
  | .fcapture => Params.cmdFcapture
  | .send => Params.cmdSend
  | .setedge => Params.cmdSetedge
  | .togbaud => Params.cmdTogbaud
  | .stop => Params.stopByte

/-- "Assembly is concatenation: each mnemonic becomes its byte, each operand its byte" (R91). -/
def assembleItem : Item → List Byte
  | .bare m => [m.byte]
  | .operand m n => [m.byte, BitVec.ofNat 8 n]
  | .byte n => [BitVec.ofNat 8 n]
  | .edgeRising => [Params.cmdSetedge, Params.subRising]
  | .edgeFalling => [Params.cmdSetedge, Params.subFalling]

/-- The bytes of a command stream (R91). -/
def assemble (items : List Item) : List Byte := items.flatMap assembleItem

/-- The instruction an item stands for; a `.byte` stands for none by itself, and a mnemonic of the wrong
format for none (R91). -/
def Item.instr : Item → Option Instr
  | .bare .version => some .version
  | .bare .capture => some .capture
  | .bare .fcapture => some .fcapture
  | .bare .send => some .send
  | .bare .togbaud => some .togbaud
  | .bare .stop => some .stop
  | .bare _ => none
  | .operand .setmult n => some (.setmult (BitVec.ofNat 8 n))
  | .operand .setdac n => some (.setdac (BitVec.ofNat 8 n))
  | .operand .setedge n => some (.setedge (BitVec.ofNat 8 n))
  | .operand _ _ => none
  | .byte _ => none
  | .edgeRising => some (.setedge Params.subRising)
  | .edgeFalling => some (.setedge Params.subFalling)

/-- The lowest `k` bytes of a number, the most significant first: spec/opcode_table.json writes a `CMD1`
row with the first byte received in bits 15:8 and the parameter in bits 7:0 (log 26). -/
def bytesOf : Nat → Nat → List Byte
  | 0, _ => []
  | k + 1, w => BitVec.ofNat 8 (w / 256 ^ k) :: bytesOf k w

/-- The bytes of a table word in wire order; a `CMD1` command byte given alone gets a parameter byte of
zeros (the bits above `nbits` are zero). -/
def tableBytes (nbits w : Nat) : List Byte :=
  match bytesOf (nbits / 8) w with
  | [b] => if head b = .wantsParam then [b, 0#8] else [b]
  | bs => bs

/-- The instruction the decoder reads from a table word. -/
def decodeTableWord (nbits w : Nat) : Option Instr :=
  match decode (tableBytes nbits w) with
  | .ok (i, _) => some i
  | .error _ => none

end Sys2Proof
end

