-- ==== Sys2Proof/Machine/Flags.lean ====
section
/-! DEFINITION. The block has no condition codes (R35). What takes their place: the one latched flag `dev.speed`, and
the conditions that end the two polling loops, recomputed every iteration and never latched (R35). -/

namespace Sys2Proof.Machine

/-- `other` of R178: `toggle-baud` flips the latched speed flag. -/
def otherSpeed : Speed → Speed
  | .normal => .fast
  | .fast => .normal

/-- The poll returned the stop byte; `none` and every other byte count as "not the stop command" (R127, R142). -/
def isStop (polled : Option Byte) : Bool := polled == some Params.stopByte

/-- The capture wait ends on a stop byte or on a fill-complete level, whichever is seen (R127, R128). -/
def captureEnds (polled : Option Byte) (fill : Level) : Bool := isStop polled || fill == .on

/-- The transfer goes round once more: no stop byte, and the counter below its bound (R142). -/
def transferGoesOn (polled : Option Byte) (ctr : Ctr) : Bool :=
  !isStop polled && decide (ctr < Params.maxSamples)

end Sys2Proof.Machine
end

