-- ==== Sys2Proof/Machine/State.lean ====
section
/-! DEFINITION. The state of `CTRL` (10_state.md), the events of its trace (R16), the moves of the other agents
(R15, R55, R62), the reasons a step can be refused, and the state at power-on (R36, R211). -/

namespace Sys2Proof.Machine

/-- How many steps `MUL(k)` has: two for each select line (R167). -/
abbrev mulSteps : Nat := 2 * Params.nSel

/-- How many steps `BOOT(k)` has: six outputs and the select lines, two each, and the two collaborators (R212). -/
abbrev bootSteps : Nat := 2 * (6 + Params.nSel) + 2

/-- `Phase`, the closed set of R21: which primitive the next step of `CTRL` performs. -/
inductive Phase where
  | boot (k : Fin bootSteps)
  | dFetch
  | dParam
  | ver (k : Fin 16)
  | mul (k : Fin mulSteps)
  | dacCsLo
  | dacHi
  | dacLo
  | dacCsHi
  | edgeSet
  | baudInit
  | capRden
  | capTrigOn
  | capTrigOff
  | capForceOn
  | capForceOff
  | capDelay
  | capPollRx
  | capPollFill
  | capAck
  | xferRdenOn
  | xferPoll
  | xferClkOn
  | xferClkOff
  | xferRead
  | xferSend
  | xferRdenOff
  deriving DecidableEq, Repr

/-- The events of the trace (R16). -/
inductive Event where
  /-- `Dir(l,d)`. -/
  | dir (l : Line) (d : Dir)
  /-- `Level(l,v)`. -/
  | level (l : Line) (v : Level)
  /-- `Read(l,v)`. -/
  | read (l : Line) (v : Level)
  /-- `Bus(b)`. -/
  | bus (b : Sample)
  /-- `Delay(n)`, microseconds. -/
  | delay (n : Nat)
  /-- `Tx(b)`. -/
  | tx (b : Byte)
  /-- `RxB(b)`: a blocking receive returned `b`. -/
  | rxB (b : Byte)
  /-- `RxT(o)`: a non-blocking receive returned `o`. -/
  | rxT (o : Option Byte)
  /-- `Init(s)`. -/
  | init (s : Speed)
  /-- `Spi(out,in)`. -/
  | spi (out shiftIn : Byte)
  /-- `RefFreq`. -/
  | refFreq
  deriving DecidableEq, Repr

/-- Who moves next, and how: `CTRL`, or an agent outside it (R15). The moves of the other agents are
enabled at any time, between any two steps of `CTRL` (R11, R55, R62). -/
inductive Move where
  /-- `CTRL` takes its step. -/
  | ctrl
  /-- `HOST`: host-send(b) (R55). -/
  | hostSend (b : Byte)
  /-- `HOST`: host-take (R55). -/
  | hostTake
  /-- `CAPHW` changes what it drives on `L_FILL`; `none`: nothing is known of it any more (R62). -/
  | driveFill (v : Option Level)
  /-- `CAPHW` changes the sample it presents on `L_DATA`; `none`: nothing is known of it any more (R62). -/
  | driveBus (b : Option Sample)
  /-- The serial link begins or ends carrying a byte, out of the block and into it (R56, R59). -/
  | setLink (sending receiving : Bool)
  deriving DecidableEq, Repr

/-- `line[l]`: the two registers of a line (R28). -/
structure LineReg where
  dir : Dir
  latch : Level
  deriving DecidableEq, Repr

/-- The registers of the seventeen lines of R27. -/
structure Lines where
  trig : LineReg
  force : LineReg
  edge : LineReg
  rden : LineReg
  sclk : LineReg
  fill : LineReg
  sel : Vector LineReg Params.nSel
  daccs : LineReg
  data : Vector LineReg Params.sampleWidth
  deriving DecidableEq, Repr

/-- `DeviceState`, the four device-configuration registers (R23). -/
structure DeviceState where
  mult : Mult
  dac : Byte
  pol : Polarity
  speed : Speed
  deriving DecidableEq, Repr

/-- Whether a byte is in flight on the serial link: the condition R56 and R59 speak of. The model's own
(log 8). -/
structure Link where
  sending : Bool
  receiving : Bool
  deriving DecidableEq, Repr

/-- The state of the block and of what it can see of the agents around it (INVENTORY.md, State). -/
structure State where
  /-- The position in the step lists (R21). -/
  phase : Phase
  /-- The device-configuration registers (R23). -/
  dev : DeviceState
  /-- The command byte being carried out (R25). -/
  cmd : Byte
  /-- The parameter byte (R25). -/
  param : Byte
  /-- Whether the capture under way is forced (R25). -/
  force : Bool
  /-- What the last poll of the transport returned (R25). -/
  polled : Option Byte
  /-- What the last read of `L_FILL` returned (R25). -/
  fill : Level
  /-- The sample in hand (R25). -/
  sample : Sample
  /-- The sample counter (R25, R26). -/
  ctr : Ctr
  /-- The line registers (R28). -/
  lines : Lines
  /-- Bytes sent by `HOST` and not yet received, oldest first (R32). -/
  rx : List Byte
  /-- Bytes sent by `CTRL` and not yet taken by `HOST`, oldest first (R32). -/
  tx : List Byte
  /-- The setting last given to `TransportInit` (R32). -/
  rate : Speed
  /-- The events so far, oldest first (R16). -/
  trace : List Event
  /-- The model's own: is a byte in flight (log 8). -/
  link : Link
  /-- The model's own: what `CAPHW` is driving on `L_FILL`, where it is known (log 4). -/
  extFill : Option Level
  /-- The model's own: the sample `CAPHW` is presenting on `L_DATA`, where it is known (log 4). -/
  extBus : Option Sample
  /-- The model's own: who moves next; with nothing scheduled, `CTRL` (log 3). -/
  sched : List Move
  /-- The model's own: how many free inputs have been drawn (log 4). -/
  draws : Nat
  deriving DecidableEq, Repr

/-- A fault. "The block raises no exception ... it has no fault outcome" (R190): there is none (log 17). -/
inductive Fault where
  deriving DecidableEq, Repr

/-- Why a step is outside what the spec speaks of. -/
inductive Refusal where
  /-- Raised by `exec` for an instruction without a meaning; no arm does. Safe. -/
  | notModelled (mnemonic : String)
  /-- Raised by `TransportInit` (phases `BAUD_INIT` and `BOOT(17)`) when `rx` is not empty or a byte is
  in flight: "a model must treat a run that reaches BAUD_INIT with rx non-empty as outside what it
  speaks of" (R59, R197(d); log 8). Safe. -/
  | linkNotQuiet
  /-- Raised by a move of `HOST` before the first `D_FETCH` (R214; log 9). Safe. -/
  | hostBeforeReady
  /-- Raised by `D_PARAM` when `cmd` is no `CMD1` command byte, for which R160 has no row; no run reaches
  it (log 10). Safe. -/
  | strayParameter
  deriving DecidableEq, Repr

/-- A line at power-on (R36, R211). -/
def LineReg.reset : LineReg := ⟨.input, .off⟩

/-- Every line at power-on (R36, R211). -/
def Lines.reset : Lines where
  trig := .reset
  force := .reset
  edge := .reset
  rden := .reset
  sclk := .reset
  fill := .reset
  sel := Vector.replicate _ .reset
  daccs := .reset
  data := Vector.replicate _ .reset

/-- The power-on column of R36: before the first step of `CTRL`. The working registers and `rate` have
no value there: logs 5 and 6 name the ones below. -/
def State.reset : State where
  phase := .boot 0
  dev := ⟨Params.defMult, Params.defDac, Params.defPol, Params.defSpeed⟩
  cmd := 0#8
  param := 0#8
  force := false
  polled := none
  fill := .off
  sample := 0#_
  ctr := 0#_
  lines := .reset
  rx := []
  tx := []
  rate := .normal
  trace := []
  link := ⟨false, false⟩
  extFill := none
  extBus := none
  sched := []
  draws := 0

end Sys2Proof.Machine
end

