-- ==== Sys2Proof/Machine/Ops.lean ====
section
/-! DEFINITION. The primitives of R14, "the only ways a rule touches anything outside CTRL's own registers": the line
wrapper (40_line_wrapper.md) and the transport primitives (20_memory.md, section 4). Each is one step and
appends one event. The block takes no exception and returns from none (R190, R195, R196), so there is no
such operation here; it addresses no memory (R50), so there is no load and no store. -/

namespace Sys2Proof.Machine

/-- What a step answers. -/
abbrev Result := Host.Outcome State Fault Refusal

/-- Go on from a next state; a refusal stays a refusal. -/
def onNext (o : Result) (f : State → Result) : Result :=
  match o with
  | .next s => f s
  | .fault r => .fault r
  | .refused r => .refused r

/-- `phase <- P` (R14, R21). -/
def State.goto (s : State) (p : Phase) : State := { s with phase := p }

/-- `trace <- trace ++ [e]` (R16). -/
def State.emit (s : State) (e : Event) : State := { s with trace := s.trace ++ [e] }

/-! ## Line registers -/

/-- `line[l]` (R28). -/
def Lines.get (r : Lines) : Line → LineReg
  | .trig => r.trig
  | .force => r.force
  | .edge => r.edge
  | .rden => r.rden
  | .sclk => r.sclk
  | .fill => r.fill
  | .sel i => r.sel[i]
  | .daccs => r.daccs
  | .data i => r.data[i]

/-- Replace the two registers of one line. -/
def Lines.set (r : Lines) (l : Line) (v : LineReg) : Lines :=
  match l with
  | .trig => { r with trig := v }
  | .force => { r with force := v }
  | .edge => { r with edge := v }
  | .rden => { r with rden := v }
  | .sclk => { r with sclk := v }
  | .fill => { r with fill := v }
  | .sel i => { r with sel := r.sel.set i v }
  | .daccs => { r with daccs := v }
  | .data i => { r with data := r.data.set i v }

/-- `line[l].dir <- d`; the latch keeps its value (R101). -/
def Lines.withDir (r : Lines) (l : Line) (d : Dir) : Lines := r.set l { r.get l with dir := d }

/-- `line[l].latch <- v`; the direction keeps its value (R102). -/
def Lines.withLatch (r : Lines) (l : Line) (v : Level) : Lines := r.set l { r.get l with latch := v }

/-- `pad(l)`: what the outside sees on a line; `none` is `Z`, not driven by `CTRL` (R28). -/
def Lines.pad (r : Lines) (l : Line) : Option Level :=
  match (r.get l).dir with
  | .output => some (r.get l).latch
  | .input => none

/-! ## The line wrapper -/

/-- `SetDir(l, d)` (R101). -/
def State.setDir (s : State) (l : Line) (d : Dir) : State :=
  { s with lines := s.lines.withDir l d, trace := s.trace ++ [.dir l d] }

/-- `SetLevel(l, v)` (R102). -/
def State.setLevel (s : State) (l : Line) (v : Level) : State :=
  { s with lines := s.lines.withLatch l v, trace := s.trace ++ [.level l v] }

/-- The sample byte on the data bus at this instant: what `CAPHW` is known to present, else a free value
(R62, R107; log 4). -/
def State.busSample (s : State) : Sample := s.extBus.getD (Config.freeSample s.draws)

/-- `ext(l)`: the level the outside drives on a pad at this instant (R103), where it is known, else a
free value (R62, U16; log 4). `L_DATA[i]` carries bit `BUS_MAP(i)` of the sample (R107; log 12). -/
def State.ext (s : State) : Line → Level
  | .fill => s.extFill.getD (Config.freeLevel s.draws .fill)
  | .data i => Level.ofBit (s.busSample.getLsbD (Config.busMap i).val)
  | l => Config.freeLevel s.draws l

/-- The level `ReadLevel(l)` returns: an input shows what the outside drives, an output its latch (R103). -/
def State.levelOf (s : State) (l : Line) : Level :=
  match (s.lines.get l).dir with
  | .input => s.ext l
  | .output => (s.lines.get l).latch

/-- `ReadLevel(l)`: the level and the state after (R103). -/
def State.readLevel (s : State) (l : Line) : Level × State :=
  (s.levelOf l, { s with trace := s.trace ++ [.read l (s.levelOf l)], draws := s.draws + 1 })

/-- `ReadBus()`: the byte whose bit `BUS_MAP(i)` is 1 exactly when `L_DATA[i]` is on, all eight lines at
one instant (R107). -/
def State.readBus (s : State) : Sample × State :=
  (s.busSample, { s with trace := s.trace ++ [.bus s.busSample], draws := s.draws + 1 })

/-- `DelayUs(n)`: the delay is carried as an event (R108; log 18). -/
def State.delayUs (s : State) (n : Nat) : State := s.emit (.delay n)

/-- A write to one of a line's two registers: what the step lists of R167 and R212 are made of. -/
inductive LineWrite where
  | dir (l : Line) (d : Dir)
  | level (l : Line) (v : Level)
  deriving DecidableEq, Repr

/-- Perform one write of a step list (R101, R102). -/
def State.perform (s : State) : LineWrite → State
  | .dir l d => s.setDir l d
  | .level l v => s.setLevel l v

/-- `TriState(l)`: the output is disabled first, then the latch set low (R105). -/
def triState (l : Line) : LineWrite × LineWrite := (.dir l .input, .level l .off)

/-- `Drive(l, v)`: the latch is loaded first, then the output enabled (R106). -/
def drive (l : Line) (v : Level) : LineWrite × LineWrite := (.level l v, .dir l .output)

/-! ## The serial transport -/

/-- The byte is accepted: the effect of `Send(b)` (R56). -/
def State.send (s : State) (b : Byte) : State :=
  { s with tx := s.tx ++ [b], trace := s.trace ++ [.tx b] }

/-- The transport finishes the byte it is sending, "which it always eventually does" (R56; log 25). -/
def State.finishSending (s : State) : State := { s with link := { s.link with sending := false } }

/-- `Send(b)` and then the rest of the step: one atomic step that completes only when the transport
accepts the byte. While the transport is busy `CTRL` is held: its turn passes to the transport, which
finishes the previous byte and so lifts the hold, and nothing of `CTRL` changes (R56; log 25). -/
def sendThen (b : Byte) (s : State) (rest : State → State) : Result :=
  if s.link.sending then .next s.finishSending else .next (rest (s.send b))

/-- `RecvBlocking()`: `none` while `rx` is empty, when `CTRL` has no step (R57; log 2). -/
def State.recvBlocking (s : State) : Option (Byte × State) :=
  match s.rx with
  | [] => none
  | b :: rest => some (b, { s with rx := rest, trace := s.trace ++ [.rxB b] })

/-- `RecvTry()`: never waits, and consumes the byte it returns (R58; log 19). -/
def State.recvTry (s : State) : Option Byte × State :=
  (s.rx.head?, { s with rx := s.rx.tail, trace := s.trace ++ [.rxT s.rx.head?] })

/-- The transport is quiet: `rx` is empty and no byte is in flight, the only case in which
`TransportInit` has a meaning (R59). -/
def State.linkQuiet (s : State) : Bool := s.rx.isEmpty && !s.link.sending && !s.link.receiving

/-- The effect of `TransportInit(sp)` on a quiet link (R59). -/
def State.initRate (s : State) (sp : Speed) : State :=
  { s with rate := sp, trace := s.trace ++ [.init sp] }

/-- `TransportInit(sp)` (R59): outside the model when the link is not quiet (R197(d), U13; log 8). -/
def transportInit (sp : Speed) (s : State) : Result :=
  if s.linkQuiet then .next (s.initRate sp) else .refused .linkNotQuiet

/-! ## The other collaborators -/

/-- `Exchange(b)`: the byte shifted in is a free input, and every use discards it (R60; log 4). -/
def State.exchange (s : State) (b : Byte) : State :=
  { s with trace := s.trace ++ [.spi b (Config.freeShiftIn s.draws)], draws := s.draws + 1 }

/-- `ConfigRefFreq()`: an event and nothing more (R33, R204). -/
def State.configRefFreq (s : State) : State := s.emit .refFreq

/-! ## Register writes of the step rules -/

/-- `dev.mult <- m` (R23, R166). -/
def State.setMult (s : State) (m : Mult) : State := { s with dev := { s.dev with mult := m } }

/-- `dev.dac <- v` (R23, R170). -/
def State.setDac (s : State) (v : Byte) : State := { s with dev := { s.dev with dac := v } }

/-- `dev.pol <- q` (R23, R175). -/
def State.setPol (s : State) (q : Polarity) : State := { s with dev := { s.dev with pol := q } }

/-- `dev.speed <- v` (R23, R178). -/
def State.setSpeed (s : State) (v : Speed) : State := { s with dev := { s.dev with speed := v } }

/-- `cmd <- b` (R25, R161). -/
def State.setCmd (s : State) (b : Byte) : State := { s with cmd := b }

/-- `param <- b` (R25, R162). -/
def State.setParam (s : State) (b : Byte) : State := { s with param := b }

/-- `force <- f` (R25, R121). -/
def State.setForce (s : State) (f : Bool) : State := { s with force := f }

/-- `polled <- o` (R25, R126, R142). -/
def State.setPolled (s : State) (o : Option Byte) : State := { s with polled := o }

/-- `fill <- v` (R25, R127). -/
def State.setFill (s : State) (v : Level) : State := { s with fill := v }

/-- `sample <- b` (R25, R144). -/
def State.setSample (s : State) (b : Sample) : State := { s with sample := b }

/-- `ctr <- c` (R25, R141, R145). -/
def State.setCtr (s : State) (c : Ctr) : State := { s with ctr := c }

end Sys2Proof.Machine
end

