-- ==== Sys2Proof/Machine/Capture.lean ====
section
/-! DEFINITION. The capture sequencer: CAPTURE and FCAPTURE (41_capture_sequencer.md). -/

namespace Sys2Proof.Machine

/-- `CAP_POLL_RX`: poll the transport (R126). -/
def capPollRx (s : State) : State :=
  let r := s.recvTry
  (r.2.setPolled r.1).goto .capPollFill

/-- `CAP_POLL_FILL`: read the fill-complete line, then test both results (R127). -/
def capPollFill (s : State) : State :=
  let r := s.readLevel .fill
  (r.2.setFill r.1).goto (if captureEnds s.polled r.1 then .capAck else .capPollRx)

/-- The step of a `CAP_*` phase (R121 to R129); `none` at every other phase. `CAP_TRIG_ON` and `CAP_TRIG_OFF`
are the two halves of `Pulse(L_TRIG)`, `CAP_FORCE_ON` and `CAP_FORCE_OFF` of `Pulse(L_FORCE)` (R104). -/
def captureStep (s : State) : Option Result :=
  match s.phase with
  | .capRden => some (.next ((s.setLevel .rden .off).goto .capTrigOn))
  | .capTrigOn => some (.next ((s.setLevel .trig .on).goto .capTrigOff))
  | .capTrigOff =>
    some (.next ((s.setLevel .trig .off).goto (if s.force then .capForceOn else .capDelay)))
  | .capForceOn => some (.next ((s.setLevel .force .on).goto .capForceOff))
  | .capForceOff => some (.next ((s.setLevel .force .off).goto .capDelay))
  | .capDelay => some (.next ((s.delayUs Params.settleUs).goto .capPollRx))
  | .capPollRx => some (.next (capPollRx s))
  | .capPollFill => some (.next (capPollFill s))
  | .capAck => some (sendThen Params.ackByte s fun t => t.goto .dFetch)
  | _ => none

/-- CAPTURE: the sequencer without force (R130). -/
def execCapture (s : State) : Result :=
  match captureStep s with
  | some r => r
  | none => .next ((s.setForce false).goto .capRden)

/-- FCAPTURE: the sequencer with force (R131). -/
def execFcapture (s : State) : Result :=
  match captureStep s with
  | some r => r
  | none => .next ((s.setForce true).goto .capRden)

end Sys2Proof.Machine
end

