-- ==== Sys2Proof/Machine/Operands.lean ====
section
/-! DEFINITION. The operand forms: what a parameter byte means to each `CMD1` command (R84 to R86), and the DAC word
made from one (R89, R171). -/

namespace Sys2Proof.Machine

/-- `MULT_CODES`, numeric (R85, 90_conflicts.md C1; log 15). -/
def multCode : Mult → Byte
  | .two => 0x02#8
  | .four => 0x04#8
  | .eight => 0x08#8

/-- The multiplier a parameter of `SETMULT` names: every value but the three codes is a no-op (R85, R166). -/
def multOfByte (p : Byte) : Option Mult :=
  if p = multCode .two then some .two
  else if p = multCode .four then some .four
  else if p = multCode .eight then some .eight
  else none

/-- The polarity a sub-code of `SETEDGE` names: `r`, `f`, "anything else ignored" (R86, R175). -/
def polOfByte (p : Byte) : Option Polarity :=
  if p = Params.subRising then some .rising
  else if p = Params.subFalling then some .falling
  else none

/-- `0x3000 | (zext_16(value) << 4)`, computed at 16 bits (R89, R171). -/
def dacWord (v : Byte) : BitVec 16 := Params.dacCmd ||| (v.setWidth 16 <<< 4)

/-- Bits 15:8 of the DAC word, exchanged first (R53a, R171). -/
def dacHigh (v : Byte) : Byte := (dacWord v >>> 8).setWidth 8

/-- Bits 7:0 of the DAC word, exchanged second (R53a, R171). -/
def dacLow (v : Byte) : Byte := (dacWord v).setWidth 8

end Sys2Proof.Machine
end

