-- ==== Sys2Proof/Machine/Configurator.lean ====
section
/-! DEFINITION. The analog parameter configurator and the edge-polarity command: SETMULT, SETDAC, SETEDGE
(43_dispatcher_and_config.md). The phases after the parameter read `dev`, not the operand (R167, R172,
R176). -/

namespace Sys2Proof.Machine

/-- The phase after `MUL(k)` (R160). -/
def afterMul (k : Fin mulSteps) : Phase := if h : k.val + 1 < mulSteps then .mul ⟨k.val + 1, h⟩ else .dFetch

/-- The two writes that put one select line in the encoding of a multiplier (R90, R167). -/
def selectWrites (m : Mult) (l : Line) : LineWrite × LineWrite :=
  match m with
  | .two => triState l
  | .four => drive l .off
  | .eight => drive l .on

/-- The select line `MUL(k)` writes: two steps a line, `L_SEL0` before `L_SEL1` (R167; log 22). -/
def mulLine (k : Fin mulSteps) : Line := .sel ⟨k.val / 2, Nat.div_lt_of_lt_mul k.isLt⟩

/-- The write of `MUL(k)`: the first or the second of its line (R167; log 22). -/
def mulWrite (m : Mult) (k : Fin mulSteps) : LineWrite :=
  if k.val % 2 = 0 then (selectWrites m (mulLine k)).1 else (selectWrites m (mulLine k)).2

/-- SETMULT: `dev.mult` and the four select-line writes, or nothing for a parameter that names no
multiplier (R166, R167). -/
def execSetmult (p : Byte) (s : State) : Result :=
  match s.phase with
  | .mul k => .next ((s.perform (mulWrite s.dev.mult k)).goto (afterMul k))
  | _ =>
    match multOfByte p with
    | some m => .next ((s.setMult m).goto (.mul 0))
    | none => .next (s.goto .dFetch)

/-- SETDAC: `dev.dac`, then the word sent high byte first inside the chip-select (R170, R172, R173). -/
def execSetdac (p : Byte) (s : State) : Result :=
  match s.phase with
  | .dacCsLo => .next ((s.setLevel .daccs .off).goto .dacHi)
  | .dacHi => .next ((s.exchange (dacHigh s.dev.dac)).goto .dacLo)
  | .dacLo => .next ((s.exchange (dacLow s.dev.dac)).goto .dacCsHi)
  | .dacCsHi => .next ((s.setLevel .daccs .on).goto .dFetch)
  | _ => .next ((s.setDac p).goto .dacCsLo)

/-- SETEDGE: `dev.pol` and one write of `L_EDGE`, or nothing for a sub-code that names no polarity (R175, R176). -/
def execSetedge (p : Byte) (s : State) : Result :=
  match s.phase with
  | .edgeSet => .next ((s.setLevel .edge (Config.edgeLevel s.dev.pol)).goto .dFetch)
  | _ =>
    match polOfByte p with
    | some q => .next ((s.setPol q).goto .edgeSet)
    | none => .next (s.goto .dFetch)

end Sys2Proof.Machine
end

