-- ==== Sys2Proof/Machine/Dispatcher.lean ====
section
/-! DEFINITION. The dispatcher's own commands: VERSION, TOGBAUD, STOP (43_dispatcher_and_config.md). A meaning performs
one primitive of its command: at a phase that belongs to the command, that phase's step; at any other
phase, which step makes `D_FETCH` or `D_PARAM` only, the command's row of R160 (log 1, log 27). -/

namespace Sys2Proof.Machine

/-- The phase after `VER(k)` (R160). -/
def afterVer (k : Fin 16) : Phase := if h : k.val + 1 < 16 then .ver ⟨k.val + 1, h⟩ else .dFetch

/-- VERSION: sixteen sends of the version string, which read no state (R164). -/
def execVersion (s : State) : Result :=
  match s.phase with
  | .ver k => sendThen (Params.versionByte k) s fun t => t.goto (afterVer k)
  | _ => .next (s.goto (.ver 0))

/-- TOGBAUD: one step, `TransportInit` at the other speed, flipping the latched speed flag (R178). -/
def execTogbaud (s : State) : Result :=
  match s.phase with
  | .baudInit =>
    onNext (transportInit (otherSpeed s.dev.speed) s) fun t =>
      .next ((t.setSpeed (otherSpeed s.dev.speed)).goto .dFetch)
  | _ => .next (s.goto .baudInit)

/-- STOP at the dispatcher: consumed and ignored, not remembered (R180). Its cancelling role belongs to
the poll steps of CAPTURE, FCAPTURE and SEND (R128, R142), which test for its byte (`isStop`). -/
def execStop (s : State) : Result := .next (s.goto .dFetch)

end Sys2Proof.Machine
end

