-- ==== Sys2Proof/Machine/Transfer.lean ====
section
/-! DEFINITION. The sample transfer engine: SEND (42_sample_transfer.md). -/

namespace Sys2Proof.Machine

/-- `XFER_POLL`: poll the transport, then test the byte and the bound; the poll is made on every test,
the last included (R142; log 20). -/
def xferPoll (s : State) : State :=
  let r := s.recvTry
  (r.2.setPolled r.1).goto (if transferGoesOn r.1 s.ctr then .xferClkOn else .xferRdenOff)

/-- `XFER_READ`: the sample on the bus, unaltered (R144). -/
def xferRead (s : State) : State :=
  let r := s.readBus
  (r.2.setSample r.1).goto .xferSend

/-- SEND: the transfer engine's steps (R141 to R148, R150). `XFER_CLK_ON` and `XFER_CLK_OFF` are the two halves
of `Pulse(L_SCLK)` (R104, R143). -/
def execSend (s : State) : Result :=
  match s.phase with
  | .xferRdenOn => .next (((s.setLevel .rden .on).setCtr 0#_).goto .xferPoll)
  | .xferPoll => .next (xferPoll s)
  | .xferClkOn => .next ((s.setLevel .sclk .on).goto .xferClkOff)
  | .xferClkOff => .next ((s.setLevel .sclk .off).goto .xferRead)
  | .xferRead => .next (xferRead s)
  | .xferSend => sendThen s.sample s fun t => (t.setCtr (t.ctr + 1#_)).goto .xferPoll
  | .xferRdenOff => .next ((s.setLevel .rden .off).goto .dFetch)
  | _ => .next (s.goto .xferRdenOn)

end Sys2Proof.Machine
end

