-- ==== Sys2Proof/Machine/Dispatch.lean ====
section
/-! DEFINITION. The meaning of each instruction, one arm per row of spec/opcode_table.json. -/

namespace Sys2Proof.Machine

def exec (i : Instr) (s : State) : Host.Outcome State Fault Refusal :=
  match i with
  | .version => Sys2Proof.Machine.execVersion s
  | .setmult p => Sys2Proof.Machine.execSetmult p s
  | .setdac p => Sys2Proof.Machine.execSetdac p s
  | .capture => Sys2Proof.Machine.execCapture s
  | .fcapture => Sys2Proof.Machine.execFcapture s
  | .send => Sys2Proof.Machine.execSend s
  | .setedge p => Sys2Proof.Machine.execSetedge p s
  | .togbaud => Sys2Proof.Machine.execTogbaud s
  | .stop => Sys2Proof.Machine.execStop s

end Sys2Proof.Machine
end

