-- ==== Sys2Proof/Machine/Boot.lean ====
section
/-! DEFINITION. The start-up list (R212): eighteen steps that belong to no command. -/

namespace Sys2Proof.Machine

/-- `BOOT(0)` to `BOOT(15)` (R212): each output's latch, then its direction, then `TriState` of the
select lines (R105; log 21). -/
def bootWrites : List LineWrite :=
  [.level .trig .off, .dir .trig .output,
   .level .force .off, .dir .force .output,
   .level .rden .off, .dir .rden .output,
   .level .sclk .off, .dir .sclk .output,
   .level .edge (Config.edgeLevel .rising), .dir .edge .output,
   .level .daccs .on, .dir .daccs .output] ++
  (List.finRange Params.nSel).flatMap fun i => [(triState (.sel i)).1, (triState (.sel i)).2]

/-- The phase after `BOOT(k)` (R212). -/
def afterBoot (k : Fin bootSteps) : Phase := if h : k.val + 1 < bootSteps then .boot ⟨k.val + 1, h⟩ else .dFetch

/-- The primitive of `BOOT(k)` and the phase after it: the sixteen line writes, `ConfigRefFreq()` at 16,
`TransportInit(NORMAL)` at 17 (R212). The DAC is not programmed and nothing is sent (R213; log 21). -/
def bootStep (k : Fin bootSteps) (s : State) : Result :=
  match bootWrites[k.val]? with
  | some w => .next ((s.perform w).goto (afterBoot k))
  | none =>
    if k.val = bootWrites.length then .next (s.configRefFreq.goto (afterBoot k))
    else onNext (transportInit .normal s) fun t => .next (t.goto (afterBoot k))

end Sys2Proof.Machine
end

