-- ==== Sys2Proof/Machine/Environment.lean ====
section
/-! DEFINITION. The moves of the agents other than `CTRL` (R15, R55, R62), each enabled between any two steps of `CTRL`. -/

namespace Sys2Proof.Machine

/-- Start-up is not over: `phase` has not yet been `D_FETCH` (R214). -/
def State.booting (s : State) : Bool :=
  match s.phase with
  | .boot _ => true
  | _ => false

/-- host-send(b): `rx <- rx ++ [b]` (R55). -/
def State.hostSend (s : State) (b : Byte) : State := { s with rx := s.rx ++ [b] }

/-- host-take: if `tx` is non-empty, remove its first byte (R55). -/
def State.hostTake (s : State) : State := { s with tx := s.tx.tail }

/-- A move of `HOST` before the first `D_FETCH` is outside the model (R214, U12; log 9). -/
def hostMove (s t : State) : Result := if s.booting then .refused .hostBeforeReady else .next t

/-- A move of an agent outside `CTRL`; `none` for `CTRL`'s own turn. -/
def envMove (s : State) : Move → Option Result
  | .ctrl => none
  | .hostSend b => some (hostMove s (s.hostSend b))
  | .hostTake => some (hostMove s s.hostTake)
  | .driveFill v => some (.next { s with extFill := v })
  | .driveBus b => some (.next { s with extBus := b })
  | .setLink o i => some (.next { s with link := ⟨o, i⟩ })

end Sys2Proof.Machine
end

