-- ==== Sys2Proof/Machine/Fetch.lean ====
section
/-! DEFINITION. What a step does before an instruction is run: whose turn it is, the two receive phases of the
dispatcher (R161, R162), and which command every other phase belongs to (R21, R160). -/

namespace Sys2Proof.Machine

/-- What a turn comes to. -/
inductive Turn where
  /-- The turn is this result: no command's meaning is called. -/
  | settled (r : Result)
  /-- The turn runs the meaning of a command on a state. -/
  | run (i : Instr) (s : State)

/-- `D_FETCH`: held while `rx` is empty; otherwise the byte goes to `cmd` and is decoded in the same step.
An unrecognised byte is ignored (R161, R180); a `CMD1` byte leads to `D_PARAM` (R160). -/
def fetchTurn (s : State) : Turn :=
  match s.recvBlocking with
  | none => .settled (.next s)
  | some (b, t) =>
    match head b with
    | .whole i => .run i (t.setCmd b)
    | .wantsParam => .settled (.next ((t.setCmd b).goto .dParam))
    | .unrecognised => .settled (.next ((t.setCmd b).goto .dFetch))

/-- `D_PARAM`: held while `rx` is empty; otherwise whatever byte arrives is the parameter (R54, R162). -/
def paramTurn (s : State) : Turn :=
  match s.recvBlocking with
  | none => .settled (.next s)
  | some (p, t) =>
    match withParam s.cmd p with
    | some i => .run i (t.setParam p)
    | none => .settled (.refused .strayParameter)

/-- `CTRL`'s turn, by `phase` (R21). A phase inside a command runs that command's meaning: the capture
phases belong to FCAPTURE when `force` holds, else to CAPTURE, and the operand of a `CMD1` command is the
byte in `param` (log 27). -/
def ctrlTurn (s : State) : Turn :=
  match s.phase with
  | .boot k => .settled (bootStep k s)
  | .dFetch => fetchTurn s
  | .dParam => paramTurn s
  | .ver _ => .run .version s
  | .mul _ => .run (.setmult s.param) s
  | .dacCsLo => .run (.setdac s.param) s
  | .dacHi => .run (.setdac s.param) s
  | .dacLo => .run (.setdac s.param) s
  | .dacCsHi => .run (.setdac s.param) s
  | .edgeSet => .run (.setedge s.param) s
  | .baudInit => .run .togbaud s
  | .capRden => .run (if s.force then .fcapture else .capture) s
  | .capTrigOn => .run (if s.force then .fcapture else .capture) s
  | .capTrigOff => .run (if s.force then .fcapture else .capture) s
  | .capForceOn => .run (if s.force then .fcapture else .capture) s
  | .capForceOff => .run (if s.force then .fcapture else .capture) s
  | .capDelay => .run (if s.force then .fcapture else .capture) s
  | .capPollRx => .run (if s.force then .fcapture else .capture) s
  | .capPollFill => .run (if s.force then .fcapture else .capture) s
  | .capAck => .run (if s.force then .fcapture else .capture) s
  | .xferRdenOn => .run .send s
  | .xferPoll => .run .send s
  | .xferClkOn => .run .send s
  | .xferClkOff => .run .send s
  | .xferRead => .run .send s
  | .xferSend => .run .send s
  | .xferRdenOff => .run .send s

/-- The state once the scheduled move in hand is taken off the schedule (log 3). -/
def State.popMove (s : State) : State := { s with sched := s.sched.tail }

/-- Exactly one agent moves (R15): the one the schedule names, and `CTRL` when nothing is scheduled (log 3). -/
def turn (s : State) : Turn :=
  match s.sched.head? with
  | none => ctrlTurn s
  | some m =>
    match envMove s.popMove m with
    | some r => .settled r
    | none => ctrlTurn s.popMove

/-- Store an instruction's bytes where the next step takes them, and give the turn to `CTRL`. A `CMD0`
command is fetched at `D_FETCH` from `rx`; a `CMD1` command is complete only when `D_PARAM` takes its
parameter, so its command byte stands in `cmd` and the parameter in `rx` (R161, R162; log 24). -/
def State.placeBytes (s : State) (bs : List Byte) : State :=
  match bs with
  | [] => { s with phase := .dFetch, rx := [], sched := [] }
  | b :: rest =>
    match head b with
    | .wantsParam => { s with phase := .dParam, cmd := b, rx := rest, sched := [] }
    | .whole _ => { s with phase := .dFetch, rx := b :: rest, sched := [] }
    | .unrecognised => { s with phase := .dFetch, rx := b :: rest, sched := [] }

end Sys2Proof.Machine
end

