-- ==== Sys2Proof/Machine/Step.lean ====
section
/-! DEFINITION. One step: exactly one agent moves (R11, R15). -/

namespace Sys2Proof.Machine

/-- What a turn answers: a command's turn runs its meaning. -/
def Turn.result : Turn → Result
  | .settled r => r
  | .run i t => exec i t

/-- One step. "Exactly one primitive" where the move is `CTRL`'s (R11). -/
def step (s : State) : Host.Outcome State Fault Refusal := (turn s).result

/-- `s` with an instruction placed where the very next step fetches and runs it (log 24). -/
def State.withFetchWord (s : State) (nbits w : Nat) : State := s.placeBytes (tableBytes nbits w)

end Sys2Proof.Machine
end

