-- ==== Sys2Proof/Safety.lean ====
section
/-! DEFINITION. The terms in which claims about runs are stated: runs and paths (every interleaving of the agents is a
schedule, log 3), the activity of R22, the tables of R36, R90 and R212 as data, what a trace tells, and the
invariants of R37. Nothing here is used by the machine. -/

namespace Sys2Proof.Machine

/-! ## Runs -/

/-- `n` steps, stopping at the first refusal. -/
def run : Nat → State → Result
  | 0, s => .next s
  | n + 1, s => onNext (step s) (run n)

/-- It is `CTRL`'s turn (R15; log 3). -/
def State.ctrlMoves (s : State) : Bool :=
  match s.sched.head? with
  | none => true
  | some .ctrl => true
  | some _ => false

/-- Some run from power-on, under some interleaving of the agents' moves, is at `s` (R11, R15). -/
def Reachable (s : State) : Prop :=
  ∃ (moves : List Move) (n : Nat), run n { State.reset with sched := moves } = .next s

/-- A finite run every state of which, first and last included, satisfies `P`. -/
inductive Path (P : State → Prop) (s : State) : State → Prop where
  | here (h : P s) : Path P s s
  | more (t u : State) (before : Path P s t) (one : step t = .next u) (h : P u) : Path P s u

/-- "The block returns to `D_FETCH`" (R231), under the schedule at hand and, once it is used up, `CTRL` alone. -/
def State.returns (s : State) : Prop := ∃ n t, run n s = .next t ∧ t.phase = .dFetch

/-- What `CAPHW` drives on `L_FILL` once the schedule is used up. -/
def State.fillInTheEnd (s : State) : Option Level :=
  s.sched.foldl (fun now m => match m with
    | .driveFill v => v
    | _ => now) s.extFill

/-! ## Activity -/

/-- R22. -/
inductive Activity where
  | idle
  | capturing
  | transferring
  deriving DecidableEq, Repr

/-- `activity(phase)` (R22). -/
def Phase.activity : Phase → Activity
  | .capRden => .capturing
  | .capTrigOn => .capturing
  | .capTrigOff => .capturing
  | .capForceOn => .capturing
  | .capForceOff => .capturing
  | .capDelay => .capturing
  | .capPollRx => .capturing
  | .capPollFill => .capturing
  | .capAck => .capturing
  | .xferRdenOn => .transferring
  | .xferPoll => .transferring
  | .xferClkOn => .transferring
  | .xferClkOff => .transferring
  | .xferRead => .transferring
  | .xferSend => .transferring
  | .xferRdenOff => .transferring
  | _ => .idle

/-- In a capture. -/
abbrev State.capturing (s : State) : Prop := s.phase.activity = .capturing

/-- In a transfer. -/
abbrev State.transferring (s : State) : Prop := s.phase.activity = .transferring

/-! ## Tables of the spec -/

/-- The encoding of a multiplier on a select line (R90). -/
def selectCode : Mult → LineReg
  | .two => ⟨.input, .off⟩
  | .four => ⟨.output, .off⟩
  | .eight => ⟨.output, .on⟩

/-- The lines in the "ready" column of R36. -/
def readyLines : Lines where
  trig := ⟨.output, .off⟩
  force := ⟨.output, .off⟩
  edge := ⟨.output, Config.edgeLevel .rising⟩
  rden := ⟨.output, .off⟩
  sclk := ⟨.output, .off⟩
  fill := ⟨.input, .off⟩
  sel := Vector.replicate _ ⟨.input, .off⟩
  daccs := ⟨.output, .on⟩
  data := Lines.reset.data

/-- The "event appended" column of R212. -/
def startUpTrace : List Event :=
  [.level .trig .off, .dir .trig .output, .level .force .off, .dir .force .output,
   .level .rden .off, .dir .rden .output, .level .sclk .off, .dir .sclk .output,
   .level .edge (Config.edgeLevel .rising), .dir .edge .output,
   .level .daccs .on, .dir .daccs .output,
   .dir (.sel 0) .input, .level (.sel 0) .off, .dir (.sel 1) .input, .level (.sel 1) .off,
   .refFreq, .init .normal]

/-- The table of R167, as the events its writes append. -/
def mulEvent : Mult → Fin mulSteps → Event
  | .two, 0 => .dir (.sel 0) .input
  | .two, 1 => .level (.sel 0) .off
  | .two, 2 => .dir (.sel 1) .input
  | .two, 3 => .level (.sel 1) .off
  | .four, 0 => .level (.sel 0) .off
  | .four, 1 => .dir (.sel 0) .output
  | .four, 2 => .level (.sel 1) .off
  | .four, 3 => .dir (.sel 1) .output
  | .eight, 0 => .level (.sel 0) .on
  | .eight, 1 => .dir (.sel 0) .output
  | .eight, 2 => .level (.sel 1) .on
  | .eight, 3 => .dir (.sel 1) .output

/-- The eight dispatched command bytes (R83). -/
def dispatchedBytes : List Byte := [0x76#8, 0x72#8, 0x74#8, 0x43#8, 0x66#8, 0x73#8, 0x69#8, 0x42#8]

/-- `VERSION_STR` as R164 lists it. -/
def versionReply : List Byte :=
  [0x44#8, 0x53#8, 0x4F#8, 0x20#8, 0x56#8, 0x65#8, 0x72#8, 0x73#8,
   0x69#8, 0x6F#8, 0x6E#8, 0x20#8, 0x32#8, 0x2E#8, 0x30#8, 0x0A#8]

/-- The number spec/opcode_table.json writes for an instruction's bytes, the first the most significant. -/
def tableNumber (bs : List Byte) : Nat := bs.foldl (fun acc b => 256 * acc + b.toNat) 0

/-- The table of R21, with the closed list of R109: the event that the primitive of the phase in hand appends.
No phase appends any other; a value from outside is left open. -/
def State.appends (s : State) (e : Event) : Prop :=
  match s.phase with
  | .boot k => startUpTrace[k.val]? = some e
  | .dFetch => ∃ b, s.rx.head? = some b ∧ e = .rxB b
  | .dParam => ∃ b, s.rx.head? = some b ∧ e = .rxB b
  | .ver k => e = .tx (versionReply.getD k.val 0#8)
  | .mul k => e = mulEvent s.dev.mult k
  | .dacCsLo => e = .level .daccs .off
  | .dacHi => ∃ r, e = .spi (0x30#8 ||| s.dev.dac >>> 4) r
  | .dacLo => ∃ r, e = .spi (s.dev.dac <<< 4) r
  | .dacCsHi => e = .level .daccs .on
  | .edgeSet => e = .level .edge (Config.edgeLevel s.dev.pol)
  | .baudInit => ∃ v, v ≠ s.dev.speed ∧ e = .init v
  | .capRden => e = .level .rden .off
  | .capTrigOn => e = .level .trig .on
  | .capTrigOff => e = .level .trig .off
  | .capForceOn => e = .level .force .on
  | .capForceOff => e = .level .force .off
  | .capDelay => e = .delay 10
  | .capPollRx => e = .rxT s.rx.head?
  | .capPollFill => ∃ v, e = .read .fill v
  | .capAck => e = .tx 0x43#8
  | .xferRdenOn => e = .level .rden .on
  | .xferPoll => e = .rxT s.rx.head?
  | .xferClkOn => e = .level .sclk .on
  | .xferClkOff => e = .level .sclk .off
  | .xferRead => ∃ b, e = .bus b
  | .xferSend => e = .tx s.sample
  | .xferRdenOff => e = .level .rden .off

/-- The phases whose primitive is `Send` (R21, R181). -/
def Phase.sends : Phase → Bool
  | .ver _ => true
  | .capAck => true
  | .xferSend => true
  | _ => false

/-! ## What a trace tells -/

/-- A rising edge asked for on a line. -/
def Event.isOn (l : Line) : Event → Bool
  | .level m .on => m == l
  | _ => false

/-- A poll of the transport. -/
def Event.isPoll : Event → Bool
  | .rxT _ => true
  | _ => false

/-- An event an outside observer can tell runs apart by (R16). -/
def Event.outside : Event → Bool
  | .dir _ _ => true
  | .level _ _ => true
  | .tx _ => true
  | .init _ => true
  | .spi _ _ => true
  | .refFreq => true
  | .delay _ => true
  | .read _ _ => false
  | .bus _ => false
  | .rxB _ => false
  | .rxT _ => false

/-- A write to a line register. -/
def Event.isLineWrite : Event → Bool
  | .level _ _ => true
  | .dir _ _ => true
  | _ => false

/-- The effect on the line registers that R101 and R102 give an event. -/
def Event.onLines (r : Lines) : Event → Lines
  | .dir l d => r.withDir l d
  | .level l v => r.withLatch l v
  | _ => r

/-- The event a line write appends (R101, R102). -/
def LineWrite.event : LineWrite → Event
  | .dir l d => .dir l d
  | .level l v => .level l v

/-- The line registers a trace leaves, from power-on. -/
def replay (trace : List Event) : Lines := trace.foldl Event.onLines Lines.reset

/-! ## Invariants -/

/-- The direction of an output line whose `SetDir` is `BOOT(k)` (R212): an input until then, an output
from then on (R37 (g)). -/
def dirAfter (k : Nat) : Phase → Dir
  | .boot j => if j.val ≤ k then .input else .output
  | _ => .output

/-- The latch of `L_RDEN`: set only inside a transfer (R37 (c)). -/
def rdenLatch : Phase → Level
  | .xferPoll => .on
  | .xferClkOn => .on
  | .xferClkOff => .on
  | .xferRead => .on
  | .xferSend => .on
  | .xferRdenOff => .on
  | _ => .off

/-- The latch of `L_DACCS`: asserted only around the two exchanges, released from `BOOT(10)` on (R37 (b), R173). -/
def daccsLatch : Phase → Level
  | .boot j => if j.val ≤ 10 then .off else .on
  | .dacHi => .off
  | .dacLo => .off
  | .dacCsHi => .off
  | _ => .on

/-- The latch of `L_EDGE` outside `EDGE_SET` (R37 (e)). -/
def edgeLatch (p : Phase) (q : Polarity) : Level :=
  match p with
  | .boot j => if j.val ≤ 8 then .off else Config.edgeLevel .rising
  | _ => Config.edgeLevel q

/-- What the invariants of R37 come to at every phase: the pulse lines are on only between the two halves
of a pulse, and so on for each line; the select lines are in the encoding of `dev.mult` except inside
`MUL(k)`, where the part already written is; the registers a phase reads hold what led to it. -/
structure Inv (s : State) : Prop where
  trig : s.lines.trig = ⟨dirAfter 1 s.phase, if s.phase = .capTrigOff then .on else .off⟩
  force : s.lines.force = ⟨dirAfter 3 s.phase, if s.phase = .capForceOff then .on else .off⟩
  rden : s.lines.rden = ⟨dirAfter 5 s.phase, rdenLatch s.phase⟩
  sclk : s.lines.sclk = ⟨dirAfter 7 s.phase, if s.phase = .xferClkOff then .on else .off⟩
  edgeDir : s.lines.edge.dir = dirAfter 9 s.phase
  edge : s.phase ≠ .edgeSet → s.lines.edge.latch = edgeLatch s.phase s.dev.pol
  daccs : s.lines.daccs = ⟨dirAfter 11 s.phase, daccsLatch s.phase⟩
  inputs : s.lines.fill = .reset ∧ s.lines.data = Lines.reset.data
  select : (∀ k, s.phase ≠ .mul k) → ∀ i, s.lines.get (.sel i) = selectCode s.dev.mult
  selectDone : ∀ k, s.phase = .mul k → ∀ i, 2 * i.val + 1 < k.val → s.lines.get (.sel i) = selectCode s.dev.mult
  selectHalf : ∀ k, s.phase = .mul k → k.val % 2 = 1 →
    s.dev.mult = .two ∧ (s.lines.get (mulLine k)).dir = .input ∨
    s.dev.mult ≠ .two ∧ (s.lines.get (mulLine k)).latch = (selectCode s.dev.mult).latch
  rate : s.booting = false → s.rate = s.dev.speed
  boot : s.booting = true → s.dev = State.reset.dev ∧ s.rx = [] ∧ s.tx = []
  param : s.phase = .dParam → head s.cmd = .wantsParam
  forced : s.phase = .capForceOn ∨ s.phase = .capForceOff → s.force = true
  ack : s.phase = .capAck → isStop s.polled = true ∨ s.fill = .on
  bound : s.phase = .xferClkOn ∨ s.phase = .xferClkOff ∨ s.phase = .xferRead ∨ s.phase = .xferSend →
    s.ctr < Params.maxSamples

/-- The invariants of R37 that hold whenever `phase = D_FETCH`, clause by clause. -/
structure AtReady (s : State) : Prop where
  /-- (a) -/
  pulseLines : s.lines.trig.latch = .off ∧ s.lines.force.latch = .off ∧ s.lines.sclk.latch = .off
  /-- (b) -/
  chipSelect : s.lines.daccs.latch = .on
  /-- (c) -/
  readEnable : s.lines.rden.latch = .off
  /-- (d) -/
  select : ∀ i, s.lines.get (.sel i) = selectCode s.dev.mult
  /-- (e) -/
  edge : s.lines.edge.latch = Config.edgeLevel s.dev.pol
  /-- (f) -/
  rate : s.rate = s.dev.speed
  /-- (g) -/
  dirs : ∀ l : Line, (∀ i, l ≠ .sel i) → (s.lines.get l).dir = (readyLines.get l).dir

end Sys2Proof.Machine
end

