-- ==== Sys2Proof/Certificates/Slice0/Obligations.lean ====
section
/-! DEFINITION. The statements for the provers. Where a statement needs a run in which no other agent moves it says
`s.sched = []`; where it holds under every interleaving it speaks of one step, of a `Path` or of `Reachable`. -/

open Sys2Proof Sys2Proof.Machine

/-! ## Power-on and start-up -/

/-- R211: the power-on values the spec gives (that every line starts as an input: its decision D12, log 21). -/
def Obligations.PowerOnState : Prop :=
  State.reset.phase = .boot 0 ∧ State.reset.dev = ⟨.two, 127#8, .rising, .normal⟩ ∧
  (∀ l, State.reset.lines.get l = ⟨.input, .off⟩ ∧ State.reset.lines.pad l = none) ∧
  State.reset.tx = [] ∧ State.reset.trace = []

/-- R212: the eighteen steps, one per phase, their events, and the ready column of R36 after them; no
output pad ever shows a level other than its resting one. The order is the spec's decision D13 (log 21). -/
def Obligations.StartUpListRuns : Prop :=
  (∀ n : Fin 18, ∃ t, run n State.reset = .next t ∧ t.phase = .boot n ∧ t.trace = startUpTrace.take n ∧
    ∀ l, t.lines.pad l = none ∨ t.lines.pad l = readyLines.pad l) ∧
  run 18 State.reset =
    .next { State.reset with phase := .dFetch, lines := readyLines, rate := .normal, trace := startUpTrace }

/-! ## Encoding -/

/-- Words written out from R83's table decode to their instructions (the codes are ASCII: log 14). -/
def Obligations.WrittenWordsDecode : Prop :=
  decode [0b01110110#8] = .ok (.version, []) ∧
  decode [0b01110010#8, 0b00000100#8] = .ok (.setmult 4#8, []) ∧
  decode [0b01110100#8, 0b01101110#8] = .ok (.setdac 110#8, []) ∧
  decode [0b01000011#8, 0b01110011#8] = .ok (.capture, [0b01110011#8]) ∧
  decode [0b01100110#8] = .ok (.fcapture, []) ∧
  decode [0b01110011#8] = .ok (.send, []) ∧
  decode [0b01101001#8, 0b01110010#8] = .ok (.setedge 0x72#8, []) ∧
  decode [0b01000010#8] = .ok (.togbaud, []) ∧
  decode [0b01101110#8] = .ok (.stop, []) ∧
  decode [0b01010110#8] = .error (.unrecognised 0x56#8)

/-- A whole command stream decodes back: no bit of an encoding is dropped and no command runs into the
next. -/
def Obligations.StreamRoundTrip : Prop :=
  ∀ is : List Instr, decodeStream (is.flatMap encode) = is

/-- Every instruction's number, as spec/opcode_table.json writes it, decodes to it. -/
def Obligations.TableNumbersDecode : Prop :=
  ∀ i : Instr, decodeTableWord (8 * (encode i).length) (tableNumber (encode i)) = some i

/-- R91: a well-formed command stream without raw bytes assembles to bytes that decode to its
instructions. -/
def Obligations.AssembledStreamDecodes : Prop :=
  ∀ items : List Item, (∀ it ∈ items, it.wellFormed = true ∧ ∀ n, it ≠ .byte n) →
    (items.filterMap Item.instr).length = items.length ∧
    decodeStream (assemble items) = items.filterMap Item.instr

/-- R81: the first byte alone decides the length, and an unrecognised byte is one byte long. -/
def Obligations.FirstByteDecidesLength : Prop :=
  ∀ (b : Byte) (p : Byte) (rest : List Byte),
    (b = 0x72#8 ∨ b = 0x74#8 ∨ b = 0x69#8 →
      ∃ i, decode (b :: p :: rest) = .ok (i, rest) ∧ decodeStream (b :: p :: rest) = i :: decodeStream rest) ∧
    (b ∈ [0x76#8, 0x43#8, 0x66#8, 0x73#8, 0x42#8, 0x6E#8] →
      ∃ i, decode (b :: rest) = .ok (i, rest) ∧ decodeStream (b :: rest) = i :: decodeStream rest) ∧
    (b ∉ dispatchedBytes → b ≠ 0x6E#8 →
      decode (b :: rest) = .error (.unrecognised b) ∧ decodeStream (b :: rest) = decodeStream rest)

/-! ## The dispatcher -/

/-- A step runs the decoded instruction, one byte long: `D_FETCH` receives the byte into `cmd` and runs the
instruction on the state so reached (R161). -/
def Obligations.StepRunsCommandByte : Prop :=
  ∀ (s : State) (b : Byte) (rest : List Byte) (i : Instr),
    s.ctrlMoves = true → s.phase = .dFetch → s.rx = b :: rest → decode [b] = .ok (i, []) →
    step s = exec i { s with sched := s.sched.tail, rx := rest, cmd := b, trace := s.trace ++ [.rxB b] }

/-- A step runs the decoded instruction, two bytes long: `D_PARAM` receives the parameter (R162). -/
def Obligations.StepRunsParameterByte : Prop :=
  ∀ (s : State) (p : Byte) (rest : List Byte) (i : Instr),
    s.ctrlMoves = true → s.phase = .dParam → s.rx = p :: rest → decode [s.cmd, p] = .ok (i, []) →
    step s = exec i { s with sched := s.sched.tail, rx := rest, param := p, trace := s.trace ++ [.rxB p] }

/-- Two bytes waiting at `D_FETCH`: the first step takes the command byte and the second runs the
instruction (R161, R162). -/
def Obligations.TwoStepsRunTwoByteCommand : Prop :=
  ∀ (s : State) (b p : Byte) (rest : List Byte) (i : Instr),
    s.sched = [] → s.phase = .dFetch → s.rx = b :: p :: rest → decode [b, p] = .ok (i, []) →
    step s = .next { s with rx := p :: rest, cmd := b, trace := s.trace ++ [.rxB b], phase := .dParam } ∧
    onNext (step s) step = exec i { s with rx := rest, cmd := b, param := p, phase := .dParam,
                                           trace := s.trace ++ [.rxB b, .rxB p] }

/-- Inside a command every step runs that command's meaning; the operand no longer matters (R21, R160;
the choice of CAPTURE or FCAPTURE inside a capture does not matter either; how exec is cut: log 1, log 27). -/
def Obligations.StepContinuesCommand : Prop :=
  ∀ s : State, s.ctrlMoves = true →
    let u := { s with sched := s.sched.tail }
    (∀ k, s.phase = .ver k → step s = exec .version u) ∧
    (∀ k p, s.phase = .mul k → step s = exec (.setmult p) u) ∧
    (∀ p, s.phase = .dacCsLo ∨ s.phase = .dacHi ∨ s.phase = .dacLo ∨ s.phase = .dacCsHi →
      step s = exec (.setdac p) u) ∧
    (∀ p, s.phase = .edgeSet → step s = exec (.setedge p) u) ∧
    (s.phase = .baudInit → step s = exec .togbaud u) ∧
    (s.capturing → step s = exec .capture u ∧ step s = exec .fcapture u) ∧
    (s.transferring → step s = exec .send u)

/-- R57: a blocking receive is held while `rx` is empty; `CTRL`'s turn changes nothing (log 2). -/
def Obligations.ReceiveHeldWhileEmpty : Prop :=
  ∀ s : State, s.ctrlMoves = true → s.phase = .dFetch ∨ s.phase = .dParam → s.rx = [] →
    step s = .next { s with sched := s.sched.tail }

/-- R180: any byte that is not one of the eight dispatched ones, the stop byte among them, is ignored (that a
stop byte leaves nothing behind: the spec's decision D28). -/
def Obligations.UndispatchedByteIgnored : Prop :=
  ∀ (s : State) (b : Byte) (rest : List Byte),
    s.ctrlMoves = true → s.phase = .dFetch → s.rx = b :: rest → b ∉ dispatchedBytes →
    step s = .next { s with sched := s.sched.tail, rx := rest, cmd := b, trace := s.trace ++ [.rxB b],
                            phase := .dFetch }

/-! ## The instructions, primitive by primitive

Each says, for every state, the whole next state: `{ s with … }` names every field that may change. That a command
begins at every phase that is not its own is the model's cut of exec (log 1, log 27): the spec says so at
`D_FETCH` or `D_PARAM` only. -/

/-- VERSION (R160, R164; no terminating zero: the spec's decision D19, log 23). That it begins at every phase but
`D_FETCH` and its own is the model's cut of exec (log 1, log 27). -/
def Obligations.VersionExecutes : Prop :=
  ∀ s : State,
    ((∀ k, s.phase ≠ .ver k) → exec .version s = .next { s with phase := .ver 0 }) ∧
    (∀ k, s.phase = .ver k → s.link.sending = false →
      exec .version s = .next { s with
        tx := s.tx ++ [versionReply.getD k.val 0#8], trace := s.trace ++ [.tx (versionReply.getD k.val 0#8)],
        phase := if k.val = 15 then .dFetch else .ver (k + 1) })

/-- SETMULT (R160, R166, R167): the parameter, then the four writes of the table. Their order is the spec's
decision D16, that a rejected parameter keeps `dev.mult` its D26 (log 22), that the codes are the numbers 2,
4 and 8 its D4 (C1, R85, log 15). That it begins at every phase but `D_PARAM` and its own is the model's cut of
exec (log 1, log 27). -/
def Obligations.SetmultExecutes : Prop :=
  ∀ (p : Byte) (s : State),
    ((∀ k, s.phase ≠ .mul k) →
      (∀ m, (p, m) ∈ [(2#8, Mult.two), (4#8, Mult.four), (8#8, Mult.eight)] →
        exec (.setmult p) s = .next { s with dev := { s.dev with mult := m }, phase := .mul 0 }) ∧
      (p ∉ [2#8, 4#8, 8#8] → exec (.setmult p) s = .next { s with phase := .dFetch })) ∧
    (∀ k, s.phase = .mul k →
      exec (.setmult p) s = .next { s with
        lines := (mulEvent s.dev.mult k).onLines s.lines, trace := s.trace ++ [mulEvent s.dev.mult k],
        phase := if k.val = 3 then .dFetch else .mul (k + 1) })

/-- SETDAC (R160, R170, R171, R172): the parameter, chip-select low, two exchanges whose returned bytes are
discarded, chip-select high. That it begins at every phase but `D_PARAM` and its own is the model's cut of exec
(log 1, log 27). -/
def Obligations.SetdacExecutes : Prop :=
  ∀ (p : Byte) (s : State),
    (s.phase ∉ [.dacCsLo, .dacHi, .dacLo, .dacCsHi] →
      exec (.setdac p) s = .next { s with dev := { s.dev with dac := p }, phase := .dacCsLo }) ∧
    (s.phase = .dacCsLo →
      exec (.setdac p) s = .next { s with
        lines := s.lines.withLatch .daccs .off, trace := s.trace ++ [.level .daccs .off], phase := .dacHi }) ∧
    (s.phase = .dacHi → ∃ r,
      exec (.setdac p) s = .next { s with
        trace := s.trace ++ [.spi (0x30#8 ||| s.dev.dac >>> 4) r], draws := s.draws + 1, phase := .dacLo }) ∧
    (s.phase = .dacLo → ∃ r,
      exec (.setdac p) s = .next { s with
        trace := s.trace ++ [.spi (s.dev.dac <<< 4) r], draws := s.draws + 1, phase := .dacCsHi }) ∧
    (s.phase = .dacCsHi →
      exec (.setdac p) s = .next { s with
        lines := s.lines.withLatch .daccs .on, trace := s.trace ++ [.level .daccs .on], phase := .dFetch })

/-- CAPTURE and FCAPTURE (R160, R121 to R131): they differ only in what they write to `force`. The order of the two
reads is the spec's decision D7 (log 20), the value of an output its D17 (log 22). The level read is
the line's latch on an output, what `CAPHW` drives on an input where that is known, else any level. That a
capture begins at every phase but `D_FETCH` and its own is the model's cut of exec (log 1, log 27). -/
def Obligations.CapturesExecute : Prop :=
  ∀ s : State,
    (¬ s.capturing →
      exec .capture s = .next { s with force := false, phase := .capRden } ∧
      exec .fcapture s = .next { s with force := true, phase := .capRden }) ∧
    ∀ i, i = .capture ∨ i = .fcapture →
      (s.phase = .capRden → exec i s = .next { s with
        lines := s.lines.withLatch .rden .off, trace := s.trace ++ [.level .rden .off],
        phase := .capTrigOn }) ∧
      (s.phase = .capTrigOn → exec i s = .next { s with
        lines := s.lines.withLatch .trig .on, trace := s.trace ++ [.level .trig .on],
        phase := .capTrigOff }) ∧
      (s.phase = .capTrigOff → exec i s = .next { s with
        lines := s.lines.withLatch .trig .off, trace := s.trace ++ [.level .trig .off],
        phase := if s.force = true then .capForceOn else .capDelay }) ∧
      (s.phase = .capForceOn → exec i s = .next { s with
        lines := s.lines.withLatch .force .on, trace := s.trace ++ [.level .force .on],
        phase := .capForceOff }) ∧
      (s.phase = .capForceOff → exec i s = .next { s with
        lines := s.lines.withLatch .force .off, trace := s.trace ++ [.level .force .off],
        phase := .capDelay }) ∧
      (s.phase = .capDelay → exec i s = .next { s with
        trace := s.trace ++ [.delay 10], phase := .capPollRx }) ∧
      (s.phase = .capPollRx → exec i s = .next { s with
        polled := s.rx.head?, rx := s.rx.tail, trace := s.trace ++ [.rxT s.rx.head?],
        phase := .capPollFill }) ∧
      (s.phase = .capPollFill → ∃ v,
        (s.lines.fill.dir = .output → v = s.lines.fill.latch) ∧
        (s.lines.fill.dir = .input → ∀ w, s.extFill = some w → v = w) ∧
        exec i s = .next { s with
          fill := v, trace := s.trace ++ [.read .fill v], draws := s.draws + 1,
          phase := if s.polled = some 0x6E#8 ∨ v = .on then .capAck else .capPollRx }) ∧
      (s.phase = .capAck → s.link.sending = false → exec i s = .next { s with
        tx := s.tx ++ [0x43#8], trace := s.trace ++ [.tx 0x43#8], phase := .dFetch })

/-- SEND (R160, R140 to R148). That the poll comes before the bound is the spec's decision D8 (log 20). The sample
read is the one `CAPHW` presents where that is known, else any byte. That it begins at every phase but `D_FETCH`
and its own is the model's cut of exec (log 1, log 27). -/
def Obligations.SendExecutes : Prop :=
  ∀ s : State,
    (¬ s.transferring → exec .send s = .next { s with phase := .xferRdenOn }) ∧
    (s.phase = .xferRdenOn → exec .send s = .next { s with
      lines := s.lines.withLatch .rden .on, trace := s.trace ++ [.level .rden .on], ctr := 0#16,
      phase := .xferPoll }) ∧
    (s.phase = .xferPoll → exec .send s = .next { s with
      polled := s.rx.head?, rx := s.rx.tail, trace := s.trace ++ [.rxT s.rx.head?],
      phase := if s.rx.head? = some 0x6E#8 then .xferRdenOff
               else if s.ctr.toNat < 65535 then .xferClkOn else .xferRdenOff }) ∧
    (s.phase = .xferClkOn → exec .send s = .next { s with
      lines := s.lines.withLatch .sclk .on, trace := s.trace ++ [.level .sclk .on], phase := .xferClkOff }) ∧
    (s.phase = .xferClkOff → exec .send s = .next { s with
      lines := s.lines.withLatch .sclk .off, trace := s.trace ++ [.level .sclk .off], phase := .xferRead }) ∧
    (s.phase = .xferRead → ∃ b, (∀ w, s.extBus = some w → b = w) ∧
      exec .send s = .next { s with
        sample := b, trace := s.trace ++ [.bus b], draws := s.draws + 1, phase := .xferSend }) ∧
    (s.phase = .xferSend → s.link.sending = false → exec .send s = .next { s with
      tx := s.tx ++ [s.sample], trace := s.trace ++ [.tx s.sample], ctr := s.ctr + 1#16, phase := .xferPoll }) ∧
    (s.phase = .xferRdenOff → exec .send s = .next { s with
      lines := s.lines.withLatch .rden .off, trace := s.trace ++ [.level .rden .off], phase := .dFetch })

/-- SETEDGE (R160, R175, R176). That the line is written at the command is the spec's decision D14 (log 22). That it
begins, or is a no-op, at every phase but `D_PARAM` and its own is the model's cut of exec (log 1, log 27). -/
def Obligations.SetedgeExecutes : Prop :=
  ∀ (p : Byte) (s : State),
    (s.phase ≠ .edgeSet →
      (p = 0x72#8 →
        exec (.setedge p) s = .next { s with dev := { s.dev with pol := .rising }, phase := .edgeSet }) ∧
      (p = 0x66#8 →
        exec (.setedge p) s = .next { s with dev := { s.dev with pol := .falling }, phase := .edgeSet }) ∧
      (p ≠ 0x72#8 → p ≠ 0x66#8 → exec (.setedge p) s = .next { s with phase := .dFetch })) ∧
    (s.phase = .edgeSet → exec (.setedge p) s = .next { s with
      lines := s.lines.withLatch .edge (Config.edgeLevel s.dev.pol),
      trace := s.trace ++ [.level .edge (Config.edgeLevel s.dev.pol)], phase := .dFetch })

/-- TOGBAUD (R160, R178) on a quiet link (R59, the spec's decision D15; the flags are the model's, log 8). That
it begins at every phase but its own is the model's cut of exec (log 1, log 27). -/
def Obligations.TogbaudExecutes : Prop :=
  ∀ s : State,
    (s.phase ≠ .baudInit → exec .togbaud s = .next { s with phase := .baudInit }) ∧
    (s.phase = .baudInit → s.rx = [] → s.link = ⟨false, false⟩ →
      ∀ v, v ≠ s.dev.speed → exec .togbaud s = .next { s with
        rate := v, dev := { s.dev with speed := v }, trace := s.trace ++ [.init v], phase := .dFetch })

/-- STOP at the dispatcher (R160, R180). That it does the same at every phase but `D_FETCH` is the model's cut of exec
(log 1, log 27). -/
def Obligations.StopExecutes : Prop :=
  ∀ s : State, exec .stop s = .next { s with phase := .dFetch }

/-- R56: while the link is sending, a `Send` step is held: the transport finishes the previous byte, which lifts
the hold, and nothing else changes (the spec's decision D9, log 25; the flag is the model's, log 8). -/
def Obligations.BusyLinkHoldsSend : Prop :=
  ∀ s : State, s.link.sending = true →
    let u := { s with link := { s.link with sending := false } }
    (∀ k, s.phase = .ver k → exec .version s = .next u) ∧
    (s.phase = .capAck → exec .capture s = .next u ∧ exec .fcapture s = .next u) ∧
    (s.phase = .xferSend → exec .send s = .next u)

/-- R59, R197(d): re-initialising a link that is not quiet is outside the model (the spec's decision D15, log 8). -/
def Obligations.TogbaudOutsideModelUnlessQuiet : Prop :=
  ∀ s : State, s.phase = .baudInit → s.rx ≠ [] ∨ s.link.sending = true ∨ s.link.receiving = true →
    exec .togbaud s = .refused .linkNotQuiet

/-! ## Whole commands -/

/-- R164: the exact literal string whatever the state, the link busy or not (no terminating zero: the spec's
decision D19, log 23; the codes: its passage G1, log 14). The bound on the turns and the sending flag at the end
are the model's (a hold lasts one turn: log 25; the flag: log 8). -/
def Obligations.VersionReplies : Prop :=
  ∀ (s : State) (rest : List Byte), s.sched = [] → s.phase = .dFetch → s.rx = 0x76#8 :: rest →
    ∃ n, n ≤ 18 ∧
      run n s = .next { s with cmd := 0x76#8, rx := rest, tx := s.tx ++ versionReply,
                               trace := s.trace ++ .rxB 0x76#8 :: versionReply.map .tx,
                               link := { s.link with sending := false } }

/-- R166: the select lines take the encoding of the multiplier; any other parameter changes no line (the
order of the writes: the spec's decision D16; that `dev.mult` is kept: its D26; log 22). That the three codes
are the numbers 2, 4 and 8, and the digits' characters no-ops, is its decision D4 (C1, R85, log 15). -/
def Obligations.SetmultDrivesSelectLines : Prop :=
  ∀ (s : State) (p : Byte) (rest : List Byte), s.sched = [] → s.phase = .dFetch → s.rx = 0x72#8 :: p :: rest →
    (∀ m, (p, m) ∈ [(2#8, Mult.two), (4#8, Mult.four), (8#8, Mult.eight)] →
      run 6 s = .next { s with
        cmd := 0x72#8, param := p, rx := rest, dev := { s.dev with mult := m },
        lines := (s.lines.set (.sel 0) (selectCode m)).set (.sel 1) (selectCode m),
        trace := s.trace ++ [.rxB 0x72#8, .rxB p, mulEvent m 0, mulEvent m 1, mulEvent m 2, mulEvent m 3] }) ∧
    (p ∉ [2#8, 4#8, 8#8] →
      run 2 s = .next { s with cmd := 0x72#8, param := p, rx := rest,
                               trace := s.trace ++ [.rxB 0x72#8, .rxB p] })

/-- R170, R172, R173: the two bytes of the word, inside the chip-select. -/
def Obligations.SetdacSendsTwoBytes : Prop :=
  ∀ (s : State) (p : Byte) (rest : List Byte), s.sched = [] → s.phase = .dFetch → s.rx = 0x74#8 :: p :: rest →
    ∃ r₁ r₂, run 6 s = .next { s with
      cmd := 0x74#8, param := p, rx := rest, dev := { s.dev with dac := p },
      lines := s.lines.withLatch .daccs .on,
      trace := s.trace ++ [.rxB 0x74#8, .rxB p, .level .daccs .off, .spi (0x30#8 ||| p >>> 4) r₁,
        .spi (p <<< 4) r₂, .level .daccs .on],
      draws := s.draws + 2 }

/-- R175: the polarity, or nothing. That `L_EDGE` is written at once is the spec's decision D14 (log 22), from
R176 and not claimed of R175. -/
def Obligations.SetedgeWritesEdgeLine : Prop :=
  ∀ (s : State) (p : Byte) (rest : List Byte), s.sched = [] → s.phase = .dFetch → s.rx = 0x69#8 :: p :: rest →
    (∀ q, (p, q) ∈ [(0x72#8, Polarity.rising), (0x66#8, Polarity.falling)] →
      run 3 s = .next { s with
        cmd := 0x69#8, param := p, rx := rest, dev := { s.dev with pol := q },
        lines := s.lines.withLatch .edge (Config.edgeLevel q),
        trace := s.trace ++ [.rxB 0x69#8, .rxB p, .level .edge (Config.edgeLevel q)] }) ∧
    (p ∉ [0x72#8, 0x66#8] →
      run 2 s = .next { s with cmd := 0x69#8, param := p, rx := rest,
                               trace := s.trace ++ [.rxB 0x69#8, .rxB p] })

/-- R179: `n` toggles, each arriving after the one before, leave the speed as it was when `n` is even and
at the other setting when it is odd; and no other command reads or sets the speed. -/
def Obligations.TwoTogglesCancel : Prop :=
  (∀ (n : Nat) (s : State), s.phase = .dFetch → s.rx = [] → s.link = ⟨false, false⟩ → s.rate = s.dev.speed →
    s.sched = (List.replicate n [Move.hostSend 0x42#8, .ctrl, .ctrl]).flatten →
    ∃ t, run (3 * n) s = .next t ∧ t.phase = .dFetch ∧ t.tx = s.tx ∧ t.rate = t.dev.speed ∧
      (n % 2 = 0 → t.dev.speed = s.dev.speed) ∧ (n % 2 = 1 → t.dev.speed ≠ s.dev.speed)) ∧
  (∀ (i : Instr) (s : State) (v : Speed), i ≠ .togbaud →
    exec i (s.setSpeed v) = onNext (exec i s) fun t => .next (t.setSpeed v))

/-! ## The capture sequencer -/

/-- R130, R131: the whole trace of a capture from `CAP_RDEN` to its return to `D_FETCH`, under every
interleaving: the writes and pulses, the delay, polls of which the last is the first to find the stop byte or
the fill level, and the acknowledgment. `DeviceState` is as it was. The shape of a poll is the spec's decision
D7 (log 20). -/
def Obligations.CaptureTraceForm : Prop :=
  ∀ s t u : State, s.phase = .capRden → Path State.capturing s t → step t = .next u → u.phase = .dFetch →
    ∃ (waits : List (Option Byte × Level)) (last : Option Byte × Level),
      u.trace = s.trace ++ [.level .rden .off, .level .trig .on, .level .trig .off] ++
        (if s.force = true then [.level .force .on, .level .force .off] else []) ++ [.delay 10] ++
        (waits ++ [last]).flatMap (fun q => [.rxT q.1, .read .fill q.2]) ++ [.tx 0x43#8] ∧
      (∀ q ∈ waits, q.1 ≠ some 0x6E#8 ∧ q.2 = .off) ∧ (last.1 = some 0x6E#8 ∨ last.2 = .on) ∧ u.dev = s.dev

/-- R133: one pulse on trigger-enable per invocation, one more on force-override iff `force`. -/
def Obligations.CapturePulseCount : Prop :=
  ∀ s t : State, s.phase = .capRden → t.phase = .capAck → Path State.capturing s t →
    ∃ news, t.trace = s.trace ++ news ∧
      news.countP (Event.isOn .trig) = 1 ∧
      news.countP (Event.isOn .force) = (if s.force = true then 1 else 0) ∧
      news.filter Event.isLineWrite = [.level .rden .off, .level .trig .on, .level .trig .off] ++
        (if s.force = true then [.level .force .on, .level .force .off] else [])

/-- R129: the acknowledgment is the same byte whichever signal ended the wait, and no line is written
after the loop. That the fill line is read even after a stop byte is the spec's decision D7 (log 20), that the
poll takes the byte it finds its D5 (log 19). -/
def Obligations.AckSameForStopAndFill : Prop :=
  ∀ s : State, s.sched = [] → s.phase = .capPollRx → s.lines.fill.dir = .input → s.link.sending = false →
    s.rx.head? = some 0x6E#8 ∨ s.extFill = some .on →
    ∃ t, run 3 s = .next t ∧ t.phase = .dFetch ∧ t.tx = s.tx ++ [0x43#8] ∧ t.rx = s.rx.tail ∧
      t.lines = s.lines ∧ t.dev = s.dev

/-- R132: no timeout. A run from the first poll in which no poll found the stop byte and every read of the fill
line was `OFF`, whatever the other agents did and whether or not anything is known to drive the line, is still
polling, has sent nothing, and goes on. And such runs exist at every length: whatever the other agents do,
short of sending the stop byte or driving the fill line other than `OFF`. -/
def Obligations.CaptureWaitHasNoTimeout : Prop :=
  (∀ (n : Nat) (s t : State) (news : List Event), s.phase = .capPollRx → run n s = .next t →
    t.trace = s.trace ++ news → (∀ e ∈ news, e ≠ .rxT (some 0x6E#8) ∧ e ≠ .read .fill .on) →
    (t.phase = .capPollRx ∨ t.phase = .capPollFill) ∧ (∀ b, .tx b ∉ news) ∧ ∃ u, step t = .next u) ∧
  (∀ s : State, s.phase = .capPollRx → s.lines.fill.dir = .input → s.extFill = some .off → 0x6E#8 ∉ s.rx →
    (∀ m ∈ s.sched, m ≠ .hostSend 0x6E#8 ∧ ∀ v, m = .driveFill v → v = some .off) →
    ∀ n, ∃ t news, run n s = .next t ∧ t.trace = s.trace ++ news ∧
      (t.phase = .capPollRx ∨ t.phase = .capPollFill) ∧ ∀ b, .tx b ∉ news)

/-! ## The sample transfer engine -/

/-- R150, with the bound of R147, the pacing of R149 and the truncation of R151, under every interleaving:
the whole trace of a session from `XFER_RDEN_ON` to its return to `D_FETCH`. `DeviceState` is as it was. That
the poll comes before the bound is the spec's decision D8 (log 20). -/
def Obligations.TransferTraceForm : Prop :=
  ∀ s t u : State, s.phase = .xferRdenOn → Path State.transferring s t → step t = .next u → u.phase = .dFetch →
    ∃ (rounds : List (Option Byte × Byte)) (o : Option Byte),
      u.trace = s.trace ++ [.level .rden .on] ++
        rounds.flatMap (fun q => [.rxT q.1, .level .sclk .on, .level .sclk .off, .bus q.2, .tx q.2]) ++
        [.rxT o, .level .rden .off] ∧
      (∀ q ∈ rounds, q.1 ≠ some 0x6E#8) ∧ u.ctr.toNat = rounds.length ∧ rounds.length ≤ 65535 ∧
      (o = some 0x6E#8 ∨ rounds.length = 65535) ∧ u.dev = s.dev

/-- R149: at every step of a session the pulses issued are `ctr` or `ctr + 1`, and `ctr` at every
`XFER_POLL`; the bytes sent are `ctr`. The spec marks it as its own derivation. -/
def Obligations.PulsesPacedByCounter : Prop :=
  ∀ s t : State, s.phase = .xferRdenOn → t.phase ≠ .xferRdenOn → Path State.transferring s t →
    ∃ news, t.trace = s.trace ++ news ∧
      (news.countP (Event.isOn .sclk) = t.ctr.toNat ∨ news.countP (Event.isOn .sclk) = t.ctr.toNat + 1) ∧
      (t.phase = .xferPoll → news.countP (Event.isOn .sclk) = t.ctr.toNat) ∧
      (news.countP fun e => decide (∃ b, e = .tx b)) = t.ctr.toNat

/-- R147: a session with no stop byte sends exactly 65535 bytes. The spec marks the counts as its own
derivation. -/
def Obligations.FullSessionSends65535 : Prop :=
  ∀ s : State, s.sched = [] → s.phase = .xferRdenOn → 0x6E#8 ∉ s.rx → s.link.sending = false →
    ∃ t news bytes, run (5 * 65535 + 3) s = .next t ∧ t.phase = .dFetch ∧ t.ctr = 65535#16 ∧
      t.trace = s.trace ++ news ∧ t.tx = s.tx ++ bytes ∧ bytes.length = 65535 ∧
      news.countP (Event.isOn .sclk) = 65535 ∧ news.countP Event.isPoll = 65536

/-- R152: every session ends, from anywhere inside it, whatever the other agents do and however often the link
is busy. The bound on the turns is the model's count (a hold lasts one turn: log 25). -/
def Obligations.EverySessionEnds : Prop :=
  ∀ s : State, s.transferring →
    ∃ n t, n ≤ 5 * 65535 + 7 + 2 * s.sched.length ∧ run n s = .next t ∧ t.phase = .dFetch

/-- R151: when the poll sees the stop byte nothing is pulsed, read or sent, and read-enable falls. -/
def Obligations.StopEndsTransferAtBoundary : Prop :=
  ∀ (s : State) (rest : List Byte), s.sched = [] → s.phase = .xferPoll → s.rx = 0x6E#8 :: rest →
    run 2 s = .next { s with
      polled := some 0x6E#8, rx := rest, lines := s.lines.withLatch .rden .off, phase := .dFetch,
      trace := s.trace ++ [.rxT (some 0x6E#8), .level .rden .off] }

/-- R146: the increment never overflows 16 bits. -/
def Obligations.CounterNeverWraps : Prop :=
  ∀ s : State, Inv s → s.phase = .xferSend → s.link.sending = false →
    ∃ t, exec .send s = .next t ∧ t.ctr.toNat = s.ctr.toNat + 1 ∧ t.ctr.toNat ≤ 65535

/-! ## The whole machine -/

/-- The invariant holds at power-on, whatever the other agents will do. -/
def Obligations.InvHoldsAtPowerOn : Prop :=
  ∀ moves : List Move, Inv { State.reset with sched := moves }

/-- Every step of every agent keeps the invariant. -/
def Obligations.EveryStepKeepsInv : Prop :=
  ∀ s t : State, Inv s → step s = .next t → Inv t

/-- R37: its clauses (a) to (g) at every `D_FETCH` that any run reaches, and its bound on the counter where a
sample is in hand. (Its `ctr <= MAX_SAMPLES` and `dev.mult` in 2, 4, 8 hold of the types.) The spec marks the
list as its own derivation. -/
def Obligations.ReadyInvariantsHold : Prop :=
  ∀ s : State, Reachable s →
    (s.phase = .dFetch → AtReady s) ∧
    (s.phase = .xferClkOn ∨ s.phase = .xferClkOff ∨ s.phase = .xferRead ∨ s.phase = .xferSend →
      s.ctr.toNat < 65535)

/-- R28, R63, R101, R102: the line registers are what the trace, replayed from power-on, makes of them;
every step keeps that. -/
def Obligations.TraceReplaysLines : Prop :=
  State.reset.lines = replay State.reset.trace ∧
  ∀ s t : State, s.lines = replay s.trace → step s = .next t → t.lines = replay t.trace

/-- R14, R21, R109: a step of `CTRL` that is not held appends exactly one event, the one the table of R21 gives
its phase; held, by an empty `rx` or by a busy link, it appends none and changes nothing of `CTRL` (a held turn is
the model's: log 2, log 25). -/
def Obligations.StepAppendsListedEvent : Prop :=
  ∀ s t : State, s.ctrlMoves = true → step s = .next t →
    (s.rx = [] ∧ (s.phase = .dFetch ∨ s.phase = .dParam) ∧ t = { s with sched := s.sched.tail }) ∨
    (s.link.sending = true ∧ s.phase.sends = true ∧
      t = { s with sched := s.sched.tail, link := { s.link with sending := false } }) ∨
    ∃ e, t.trace = s.trace ++ [e] ∧ s.appends e

/-- R181: `tx` grows only at `VER(k)`, `CAP_ACK` and `XFER_SEND`, by the byte of that step. -/
def Obligations.OnlyThreeStepsSend : Prop :=
  ∀ s t : State, s.ctrlMoves = true → step s = .next t →
    t.tx = s.tx ∨ (∃ k, s.phase = .ver k ∧ t.tx = s.tx ++ [versionReply.getD k.val 0#8]) ∨
    (s.phase = .capAck ∧ t.tx = s.tx ++ [0x43#8]) ∨ (s.phase = .xferSend ∧ t.tx = s.tx ++ [s.sample])

/-- R22: a capture is entered only from the dispatcher and left only by its acknowledgment, a transfer only
by its last phase. -/
def Obligations.ActivityChangesOnlyAtItsEnds : Prop :=
  ∀ s t : State, step s = .next t →
    (t.phase.activity = s.phase.activity) ∨
    (s.phase = .dFetch ∧ (t.phase = .capRden ∨ t.phase = .xferRdenOn)) ∨
    ((s.phase = .capAck ∨ s.phase = .xferRdenOff) ∧ t.phase = .dFetch)

/-- R23, R24: each device register is written by exactly one command, and only where that command starts
(`dev.speed` at its one step). -/
def Obligations.OneWriterPerDeviceRegister : Prop :=
  ∀ (i : Instr) (s t : State), exec i s = .next t →
    (t.dev.mult ≠ s.dev.mult → ∃ p, i = .setmult p ∧ t.phase = .mul 0) ∧
    (t.dev.dac ≠ s.dev.dac → i = .setdac t.dev.dac ∧ t.phase = .dacCsLo) ∧
    (t.dev.pol ≠ s.dev.pol → ∃ p, i = .setedge p ∧ t.phase = .edgeSet) ∧
    (t.dev.speed ≠ s.dev.speed → i = .togbaud ∧ s.phase = .baudInit ∧ t.rate = t.dev.speed)

/-- R190, R197(d), R214: from a state of the invariant no step faults, and it is refused only where the
spec says the run is outside the model. -/
def Obligations.RefusedOnlyOutsideModel : Prop :=
  ∀ (s : State) (r : Refusal), Inv s → step s = .refused r →
    (r = .linkNotQuiet ∧ s.ctrlMoves = true ∧ (s.phase = .baudInit ∨ s.phase = .boot 17) ∧
      s.linkQuiet = false) ∨
    (r = .hostBeforeReady ∧ s.booting = true ∧
      (s.sched.head? = some .hostTake ∨ ∃ b, s.sched.head? = some (.hostSend b)))

/-- R55: the two moves of `HOST`, once it may move (R214, the spec's decision D15). -/
def Obligations.HostMoves : Prop :=
  ∀ (s : State) (b : Byte),
    (s.sched.head? = some (.hostSend b) → s.booting = false →
      step s = .next { s with sched := s.sched.tail, rx := s.rx ++ [b] }) ∧
    (s.sched.head? = some .hostTake → s.booting = false →
      step s = .next { s with sched := s.sched.tail, tx := s.tx.tail })

/-- R15, R62: the moves of the other agents touch no register of `CTRL`, no line register and no event. -/
def Obligations.OtherAgentsTouchOnlyTheirOwn : Prop :=
  ∀ s t : State, s.ctrlMoves = false → step s = .next t →
    t = { s with sched := s.sched.tail, rx := t.rx, tx := t.tx, link := t.link,
                 extFill := t.extFill, extBus := t.extBus }

/-- During `MUL(0)` to `MUL(3)` each select pad shows its old state or its new one and no other (R105,
R106; the order of the writes is the spec's decision D16, log 22). -/
def Obligations.SelectPadsShowOldOrNew : Prop :=
  ∀ (s : State) (m : Mult) (n : Nat) (t : State), s.sched = [] → s.phase = .mul 0 →
    (∀ i, s.lines.get (.sel i) = selectCode m) → n ≤ 4 → run n s = .next t →
    ∀ i, t.lines.pad (.sel i) = s.lines.pad (.sel i) ∨
      t.lines.pad (.sel i) = (s.lines.set (.sel i) (selectCode s.dev.mult)).pad (.sel i)

/-! ## Liveness (R231)

Under every schedule: the other agents may make any moves between `CTRL`'s, and the link may be busy any number
of times. -/

/-- R231: VERSION and SEND return unconditionally, and so do the steps that follow a parameter or end a capture
(R56: a held `Send` is always released, log 25). TOGBAUD returns, or the run is outside the model (R59, the spec's
decision D15, log 8). -/
def Obligations.CommandsReturnUnconditionally : Prop :=
  ∀ s : State,
    ((∃ k, s.phase = .ver k) ∨ s.transferring ∨ (∃ k, s.phase = .mul k) ∨
      s.phase ∈ [.dacCsLo, .dacHi, .dacLo, .dacCsHi, .edgeSet, .capAck] → s.returns) ∧
    (s.phase = .baudInit → s.returns ∨ ∃ n, run n s = .refused .linkNotQuiet)

/-- R231: SETMULT, SETDAC and SETEDGE return given that the parameter byte is eventually sent. -/
def Obligations.ParameterCommandsReturn : Prop :=
  ∀ s : State, s.phase = .dParam → head s.cmd = .wantsParam →
    s.rx ≠ [] ∨ (∃ b, .hostSend b ∈ s.sched) → s.returns

/-- R231: CAPTURE and FCAPTURE return given that a stop byte or a fill-complete level is eventually seen. -/
def Obligations.CapturesReturn : Prop :=
  ∀ s : State, s.capturing →
    (0x6E#8 ∈ s.rx ∨ .hostSend 0x6E#8 ∈ s.sched) ∨
      (s.lines.fill.dir = .input ∧ s.fillInTheEnd = some .on) → s.returns

/-! ## The line wrapper -/

/-- R101: `SetDir`. -/
def Obligations.SetDirWritesOneDirection : Prop :=
  ∀ (s : State) (l : Line) (d : Dir),
    s.setDir l d = { s with lines := (s.setDir l d).lines, trace := s.trace ++ [.dir l d] } ∧
    (s.setDir l d).lines.get l = ⟨d, (s.lines.get l).latch⟩ ∧
    (∀ m, m ≠ l → (s.setDir l d).lines.get m = s.lines.get m) ∧
    (s.setDir l d).lines.pad l = if d = .output then some (s.lines.get l).latch else none

/-- R102: `SetLevel`. -/
def Obligations.SetLevelWritesOneLatch : Prop :=
  ∀ (s : State) (l : Line) (v : Level),
    s.setLevel l v = { s with lines := (s.setLevel l v).lines, trace := s.trace ++ [.level l v] } ∧
    (s.setLevel l v).lines.get l = ⟨(s.lines.get l).dir, v⟩ ∧
    (∀ m, m ≠ l → (s.setLevel l v).lines.get m = s.lines.get m) ∧
    (s.setLevel l v).lines.pad l = if (s.lines.get l).dir = .output then some v else none

/-- R103, R107: the two reads (an output's latch: the spec's decision D17; one instant: its D18; log 22). A data-bus line carries the bit of the sample that `BUS_MAP` names. -/
def Obligations.ReadsReturnTheOutside : Prop :=
  ∀ (s : State),
    (∀ l, (s.lines.get l).dir = .input → (s.readLevel l).1 = s.ext l) ∧
    (∀ l, (s.lines.get l).dir = .output → (s.readLevel l).1 = (s.lines.get l).latch) ∧
    (∀ i : Fin 8, s.readBus.1.getLsbD (Config.busMap i).val = (s.ext (.data i) == .on)) ∧
    (∀ j : Fin 8, ∃ i : Fin 8, Config.busMap i = j) ∧
    (∀ v, s.extFill = some v → s.ext .fill = v) ∧ (∀ b, s.extBus = some b → s.readBus.1 = b)

/-- R171: the DAC word, its range, and its two bytes. -/
def Obligations.DacWordArithmetic : Prop :=
  ∀ v : Byte,
    dacWord v = 0x3000#16 ||| (v.setWidth 16 <<< 4) ∧
    (v.setWidth 16 <<< 4).toNat = 16 * v.toNat ∧ 0x3000#16 &&& (v.setWidth 16 <<< 4) = 0#16 ∧
    0x3000 ≤ (dacWord v).toNat ∧ (dacWord v).toNat ≤ 0x3FF0 ∧ dacWord v &&& 0x000F#16 = 0#16 ∧
    (dacHigh v).setWidth 16 = dacWord v >>> 8 ∧ dacHigh v = 0x30#8 ||| v >>> 4 ∧
    (dacLow v).setWidth 16 = dacWord v &&& 0x00FF#16 ∧ dacLow v = v <<< 4

/-- R10: the open parameters keep what the spec says of them, for every value they may have. -/
def Obligations.OpenParametersConstrained : Prop :=
  Config.edgeLevel .rising ≠ Config.edgeLevel .falling ∧ Config.baud .normal ≠ Config.baud .fast
end

