-- ==== Sys2Proof/Laws/Lines.lean ====
section
/-! SUPPORT. The line registers: a write is read back at its line and leaves every other line alone (R101, R102), and
what the pad then shows (R28). -/

namespace Sys2Proof.Machine

@[simp] theorem Lines.get_set_same (r : Lines) (l : Line) (v : LineReg) : (r.set l v).get l = v := by
  cases l <;> simp [Lines.get, Lines.set]

theorem Lines.get_set_ne (r : Lines) (l m : Line) (v : LineReg) (h : m ≠ l) :
    (r.set l v).get m = r.get m := by
  cases l <;> cases m <;> first | rfl | exact absurd rfl h | skip
  all_goals
    rename_i i j
    have hij : (i : Nat) ≠ j := fun e => h (Fin.ext e ▸ rfl)
    simp [Lines.get, Lines.set, hij]

@[simp] theorem Lines.get_withDir_same (r : Lines) (l : Line) (d : Dir) :
    (r.withDir l d).get l = { r.get l with dir := d } := r.get_set_same l _

@[simp] theorem Lines.get_withLatch_same (r : Lines) (l : Line) (v : Level) :
    (r.withLatch l v).get l = { r.get l with latch := v } := r.get_set_same l _

theorem Lines.get_withDir_ne (r : Lines) (l m : Line) (d : Dir) (h : m ≠ l) :
    (r.withDir l d).get m = r.get m := r.get_set_ne l m _ h

theorem Lines.get_withLatch_ne (r : Lines) (l m : Line) (v : Level) (h : m ≠ l) :
    (r.withLatch l v).get m = r.get m := r.get_set_ne l m _ h

/-- R102: the pad of an output takes the level at once; a tri-stated pad stays undriven. -/
theorem Lines.pad_withLatch_same (r : Lines) (l : Line) (v : Level) :
    (r.withLatch l v).pad l = if (r.get l).dir = .output then some v else none := by
  rcases h : (r.get l).dir <;> simp [Lines.pad, h]

/-- R101: enabling an output drives its latch; disabling it leaves the pad undriven. -/
theorem Lines.pad_withDir_same (r : Lines) (l : Line) (d : Dir) :
    (r.withDir l d).pad l = if d = .output then some (r.get l).latch else none := by
  cases d <;> simp [Lines.pad]

end Sys2Proof.Machine
end

