-- ==== Sys2Proof/Laws/Params.lean ====
section
/-! SUPPORT. The values of the parameters of R10, so that no proof unfolds one. -/

@[simp] theorem Sys2Proof.Machine.mulSteps_eq : Sys2Proof.Machine.mulSteps = 4 := rfl
@[simp] theorem Sys2Proof.Machine.bootSteps_eq : Sys2Proof.Machine.bootSteps = 18 := rfl

namespace Sys2Proof.Params

@[simp] theorem ctrWidth_eq : ctrWidth = 16 := rfl
@[simp] theorem sampleWidth_eq : sampleWidth = 8 := rfl
@[simp] theorem nSel_eq : nSel = 2 := rfl
@[simp] theorem cmdVersion_eq : cmdVersion = 0x76#8 := rfl
@[simp] theorem cmdSetmult_eq : cmdSetmult = 0x72#8 := rfl
@[simp] theorem cmdSetdac_eq : cmdSetdac = 0x74#8 := rfl
@[simp] theorem cmdCapture_eq : cmdCapture = 0x43#8 := rfl
@[simp] theorem cmdFcapture_eq : cmdFcapture = 0x66#8 := rfl
@[simp] theorem cmdSend_eq : cmdSend = 0x73#8 := rfl
@[simp] theorem cmdSetedge_eq : cmdSetedge = 0x69#8 := rfl
@[simp] theorem cmdTogbaud_eq : cmdTogbaud = 0x42#8 := rfl
@[simp] theorem stopByte_eq : stopByte = 0x6E#8 := rfl
@[simp] theorem subRising_eq : subRising = 0x72#8 := rfl
@[simp] theorem subFalling_eq : subFalling = 0x66#8 := rfl
@[simp] theorem ackByte_eq : ackByte = 0x43#8 := rfl
@[simp] theorem settleUs_eq : settleUs = 10 := rfl

/-- The increment of the counter, as a number, below its bound (R146). -/
theorem toNat_succ (c : Ctr) (h : c.toNat < 65535) : (c + 1#_).toNat = c.toNat + 1 := by
  have : (c + 1#_).toNat = (c.toNat + 1) % 65536 := BitVec.toNat_add c 1#_
  omega

/-- The bound of a transfer, as a number (R147). -/
theorem lt_maxSamples (c : Ctr) : c < maxSamples ↔ c.toNat < 65535 := by
  rw [BitVec.lt_def]; rfl

end Sys2Proof.Params
end

