-- ==== Sys2Proof/Laws/State.lean ====
section
/-! SUPPORT. One lemma per field per update of the state: what each named operation leaves in each field. -/

namespace Sys2Proof.Machine

variable (s : State)

/-! ### goto -/
@[simp] theorem State.goto_phase (p : Phase) : (s.goto p).phase = p := rfl
@[simp] theorem State.goto_dev (p : Phase) : (s.goto p).dev = s.dev := rfl
@[simp] theorem State.goto_cmd (p : Phase) : (s.goto p).cmd = s.cmd := rfl
@[simp] theorem State.goto_param (p : Phase) : (s.goto p).param = s.param := rfl
@[simp] theorem State.goto_force (p : Phase) : (s.goto p).force = s.force := rfl
@[simp] theorem State.goto_polled (p : Phase) : (s.goto p).polled = s.polled := rfl
@[simp] theorem State.goto_fill (p : Phase) : (s.goto p).fill = s.fill := rfl
@[simp] theorem State.goto_sample (p : Phase) : (s.goto p).sample = s.sample := rfl
@[simp] theorem State.goto_ctr (p : Phase) : (s.goto p).ctr = s.ctr := rfl
@[simp] theorem State.goto_lines (p : Phase) : (s.goto p).lines = s.lines := rfl
@[simp] theorem State.goto_rx (p : Phase) : (s.goto p).rx = s.rx := rfl
@[simp] theorem State.goto_tx (p : Phase) : (s.goto p).tx = s.tx := rfl
@[simp] theorem State.goto_rate (p : Phase) : (s.goto p).rate = s.rate := rfl
@[simp] theorem State.goto_trace (p : Phase) : (s.goto p).trace = s.trace := rfl
@[simp] theorem State.goto_link (p : Phase) : (s.goto p).link = s.link := rfl
@[simp] theorem State.goto_extFill (p : Phase) : (s.goto p).extFill = s.extFill := rfl
@[simp] theorem State.goto_extBus (p : Phase) : (s.goto p).extBus = s.extBus := rfl
@[simp] theorem State.goto_sched (p : Phase) : (s.goto p).sched = s.sched := rfl
@[simp] theorem State.goto_draws (p : Phase) : (s.goto p).draws = s.draws := rfl

/-! ### emit -/
@[simp] theorem State.emit_phase (e : Event) : (s.emit e).phase = s.phase := rfl
@[simp] theorem State.emit_dev (e : Event) : (s.emit e).dev = s.dev := rfl
@[simp] theorem State.emit_cmd (e : Event) : (s.emit e).cmd = s.cmd := rfl
@[simp] theorem State.emit_param (e : Event) : (s.emit e).param = s.param := rfl
@[simp] theorem State.emit_force (e : Event) : (s.emit e).force = s.force := rfl
@[simp] theorem State.emit_polled (e : Event) : (s.emit e).polled = s.polled := rfl
@[simp] theorem State.emit_fill (e : Event) : (s.emit e).fill = s.fill := rfl
@[simp] theorem State.emit_sample (e : Event) : (s.emit e).sample = s.sample := rfl
@[simp] theorem State.emit_ctr (e : Event) : (s.emit e).ctr = s.ctr := rfl
@[simp] theorem State.emit_lines (e : Event) : (s.emit e).lines = s.lines := rfl
@[simp] theorem State.emit_rx (e : Event) : (s.emit e).rx = s.rx := rfl
@[simp] theorem State.emit_tx (e : Event) : (s.emit e).tx = s.tx := rfl
@[simp] theorem State.emit_rate (e : Event) : (s.emit e).rate = s.rate := rfl
@[simp] theorem State.emit_trace (e : Event) : (s.emit e).trace = s.trace ++ [e] := rfl
@[simp] theorem State.emit_link (e : Event) : (s.emit e).link = s.link := rfl
@[simp] theorem State.emit_extFill (e : Event) : (s.emit e).extFill = s.extFill := rfl
@[simp] theorem State.emit_extBus (e : Event) : (s.emit e).extBus = s.extBus := rfl
@[simp] theorem State.emit_sched (e : Event) : (s.emit e).sched = s.sched := rfl
@[simp] theorem State.emit_draws (e : Event) : (s.emit e).draws = s.draws := rfl

/-! ### finishSending -/
@[simp] theorem State.finishSending_phase : s.finishSending.phase = s.phase := rfl
@[simp] theorem State.finishSending_dev : s.finishSending.dev = s.dev := rfl
@[simp] theorem State.finishSending_cmd : s.finishSending.cmd = s.cmd := rfl
@[simp] theorem State.finishSending_param : s.finishSending.param = s.param := rfl
@[simp] theorem State.finishSending_force : s.finishSending.force = s.force := rfl
@[simp] theorem State.finishSending_polled : s.finishSending.polled = s.polled := rfl
@[simp] theorem State.finishSending_fill : s.finishSending.fill = s.fill := rfl
@[simp] theorem State.finishSending_sample : s.finishSending.sample = s.sample := rfl
@[simp] theorem State.finishSending_ctr : s.finishSending.ctr = s.ctr := rfl
@[simp] theorem State.finishSending_lines : s.finishSending.lines = s.lines := rfl
@[simp] theorem State.finishSending_rx : s.finishSending.rx = s.rx := rfl
@[simp] theorem State.finishSending_tx : s.finishSending.tx = s.tx := rfl
@[simp] theorem State.finishSending_rate : s.finishSending.rate = s.rate := rfl
@[simp] theorem State.finishSending_trace : s.finishSending.trace = s.trace := rfl
@[simp] theorem State.finishSending_link : s.finishSending.link = ⟨false, s.link.receiving⟩ := rfl
@[simp] theorem State.finishSending_extFill : s.finishSending.extFill = s.extFill := rfl
@[simp] theorem State.finishSending_extBus : s.finishSending.extBus = s.extBus := rfl
@[simp] theorem State.finishSending_sched : s.finishSending.sched = s.sched := rfl
@[simp] theorem State.finishSending_draws : s.finishSending.draws = s.draws := rfl

/-! ### setDir -/
@[simp] theorem State.setDir_phase (l : Line) (d : Dir) : (s.setDir l d).phase = s.phase := rfl
@[simp] theorem State.setDir_dev (l : Line) (d : Dir) : (s.setDir l d).dev = s.dev := rfl
@[simp] theorem State.setDir_cmd (l : Line) (d : Dir) : (s.setDir l d).cmd = s.cmd := rfl
@[simp] theorem State.setDir_param (l : Line) (d : Dir) : (s.setDir l d).param = s.param := rfl
@[simp] theorem State.setDir_force (l : Line) (d : Dir) : (s.setDir l d).force = s.force := rfl
@[simp] theorem State.setDir_polled (l : Line) (d : Dir) : (s.setDir l d).polled = s.polled := rfl
@[simp] theorem State.setDir_fill (l : Line) (d : Dir) : (s.setDir l d).fill = s.fill := rfl
@[simp] theorem State.setDir_sample (l : Line) (d : Dir) : (s.setDir l d).sample = s.sample := rfl
@[simp] theorem State.setDir_ctr (l : Line) (d : Dir) : (s.setDir l d).ctr = s.ctr := rfl
@[simp] theorem State.setDir_lines (l : Line) (d : Dir) : (s.setDir l d).lines = s.lines.withDir l d := rfl
@[simp] theorem State.setDir_rx (l : Line) (d : Dir) : (s.setDir l d).rx = s.rx := rfl
@[simp] theorem State.setDir_tx (l : Line) (d : Dir) : (s.setDir l d).tx = s.tx := rfl
@[simp] theorem State.setDir_rate (l : Line) (d : Dir) : (s.setDir l d).rate = s.rate := rfl
@[simp] theorem State.setDir_trace (l : Line) (d : Dir) : (s.setDir l d).trace = s.trace ++ [.dir l d] := rfl
@[simp] theorem State.setDir_link (l : Line) (d : Dir) : (s.setDir l d).link = s.link := rfl
@[simp] theorem State.setDir_extFill (l : Line) (d : Dir) : (s.setDir l d).extFill = s.extFill := rfl
@[simp] theorem State.setDir_extBus (l : Line) (d : Dir) : (s.setDir l d).extBus = s.extBus := rfl
@[simp] theorem State.setDir_sched (l : Line) (d : Dir) : (s.setDir l d).sched = s.sched := rfl
@[simp] theorem State.setDir_draws (l : Line) (d : Dir) : (s.setDir l d).draws = s.draws := rfl

/-! ### setLevel -/
@[simp] theorem State.setLevel_phase (l : Line) (v : Level) : (s.setLevel l v).phase = s.phase := rfl
@[simp] theorem State.setLevel_dev (l : Line) (v : Level) : (s.setLevel l v).dev = s.dev := rfl
@[simp] theorem State.setLevel_cmd (l : Line) (v : Level) : (s.setLevel l v).cmd = s.cmd := rfl
@[simp] theorem State.setLevel_param (l : Line) (v : Level) : (s.setLevel l v).param = s.param := rfl
@[simp] theorem State.setLevel_force (l : Line) (v : Level) : (s.setLevel l v).force = s.force := rfl
@[simp] theorem State.setLevel_polled (l : Line) (v : Level) : (s.setLevel l v).polled = s.polled := rfl
@[simp] theorem State.setLevel_fill (l : Line) (v : Level) : (s.setLevel l v).fill = s.fill := rfl
@[simp] theorem State.setLevel_sample (l : Line) (v : Level) : (s.setLevel l v).sample = s.sample := rfl
@[simp] theorem State.setLevel_ctr (l : Line) (v : Level) : (s.setLevel l v).ctr = s.ctr := rfl
@[simp] theorem State.setLevel_lines (l : Line) (v : Level) : (s.setLevel l v).lines = s.lines.withLatch l v := rfl
@[simp] theorem State.setLevel_rx (l : Line) (v : Level) : (s.setLevel l v).rx = s.rx := rfl
@[simp] theorem State.setLevel_tx (l : Line) (v : Level) : (s.setLevel l v).tx = s.tx := rfl
@[simp] theorem State.setLevel_rate (l : Line) (v : Level) : (s.setLevel l v).rate = s.rate := rfl
@[simp] theorem State.setLevel_trace (l : Line) (v : Level) : (s.setLevel l v).trace = s.trace ++ [.level l v] := rfl
@[simp] theorem State.setLevel_link (l : Line) (v : Level) : (s.setLevel l v).link = s.link := rfl
@[simp] theorem State.setLevel_extFill (l : Line) (v : Level) : (s.setLevel l v).extFill = s.extFill := rfl
@[simp] theorem State.setLevel_extBus (l : Line) (v : Level) : (s.setLevel l v).extBus = s.extBus := rfl
@[simp] theorem State.setLevel_sched (l : Line) (v : Level) : (s.setLevel l v).sched = s.sched := rfl
@[simp] theorem State.setLevel_draws (l : Line) (v : Level) : (s.setLevel l v).draws = s.draws := rfl

/-! ### readLevel -/
@[simp] theorem State.readLevel_phase (l : Line) : (s.readLevel l).2.phase = s.phase := rfl
@[simp] theorem State.readLevel_dev (l : Line) : (s.readLevel l).2.dev = s.dev := rfl
@[simp] theorem State.readLevel_cmd (l : Line) : (s.readLevel l).2.cmd = s.cmd := rfl
@[simp] theorem State.readLevel_param (l : Line) : (s.readLevel l).2.param = s.param := rfl
@[simp] theorem State.readLevel_force (l : Line) : (s.readLevel l).2.force = s.force := rfl
@[simp] theorem State.readLevel_polled (l : Line) : (s.readLevel l).2.polled = s.polled := rfl
@[simp] theorem State.readLevel_fill (l : Line) : (s.readLevel l).2.fill = s.fill := rfl
@[simp] theorem State.readLevel_sample (l : Line) : (s.readLevel l).2.sample = s.sample := rfl
@[simp] theorem State.readLevel_ctr (l : Line) : (s.readLevel l).2.ctr = s.ctr := rfl
@[simp] theorem State.readLevel_lines (l : Line) : (s.readLevel l).2.lines = s.lines := rfl
@[simp] theorem State.readLevel_rx (l : Line) : (s.readLevel l).2.rx = s.rx := rfl
@[simp] theorem State.readLevel_tx (l : Line) : (s.readLevel l).2.tx = s.tx := rfl
@[simp] theorem State.readLevel_rate (l : Line) : (s.readLevel l).2.rate = s.rate := rfl
@[simp] theorem State.readLevel_trace (l : Line) : (s.readLevel l).2.trace = s.trace ++ [.read l (s.levelOf l)] := rfl
@[simp] theorem State.readLevel_link (l : Line) : (s.readLevel l).2.link = s.link := rfl
@[simp] theorem State.readLevel_extFill (l : Line) : (s.readLevel l).2.extFill = s.extFill := rfl
@[simp] theorem State.readLevel_extBus (l : Line) : (s.readLevel l).2.extBus = s.extBus := rfl
@[simp] theorem State.readLevel_sched (l : Line) : (s.readLevel l).2.sched = s.sched := rfl
@[simp] theorem State.readLevel_draws (l : Line) : (s.readLevel l).2.draws = s.draws + 1 := rfl

/-! ### readBus -/
@[simp] theorem State.readBus_phase : s.readBus.2.phase = s.phase := rfl
@[simp] theorem State.readBus_dev : s.readBus.2.dev = s.dev := rfl
@[simp] theorem State.readBus_cmd : s.readBus.2.cmd = s.cmd := rfl
@[simp] theorem State.readBus_param : s.readBus.2.param = s.param := rfl
@[simp] theorem State.readBus_force : s.readBus.2.force = s.force := rfl
@[simp] theorem State.readBus_polled : s.readBus.2.polled = s.polled := rfl
@[simp] theorem State.readBus_fill : s.readBus.2.fill = s.fill := rfl
@[simp] theorem State.readBus_sample : s.readBus.2.sample = s.sample := rfl
@[simp] theorem State.readBus_ctr : s.readBus.2.ctr = s.ctr := rfl
@[simp] theorem State.readBus_lines : s.readBus.2.lines = s.lines := rfl
@[simp] theorem State.readBus_rx : s.readBus.2.rx = s.rx := rfl
@[simp] theorem State.readBus_tx : s.readBus.2.tx = s.tx := rfl
@[simp] theorem State.readBus_rate : s.readBus.2.rate = s.rate := rfl
@[simp] theorem State.readBus_trace : s.readBus.2.trace = s.trace ++ [.bus s.busSample] := rfl
@[simp] theorem State.readBus_link : s.readBus.2.link = s.link := rfl
@[simp] theorem State.readBus_extFill : s.readBus.2.extFill = s.extFill := rfl
@[simp] theorem State.readBus_extBus : s.readBus.2.extBus = s.extBus := rfl
@[simp] theorem State.readBus_sched : s.readBus.2.sched = s.sched := rfl
@[simp] theorem State.readBus_draws : s.readBus.2.draws = s.draws + 1 := rfl

/-! ### delayUs -/
@[simp] theorem State.delayUs_phase (n : Nat) : (s.delayUs n).phase = s.phase := rfl
@[simp] theorem State.delayUs_dev (n : Nat) : (s.delayUs n).dev = s.dev := rfl
@[simp] theorem State.delayUs_cmd (n : Nat) : (s.delayUs n).cmd = s.cmd := rfl
@[simp] theorem State.delayUs_param (n : Nat) : (s.delayUs n).param = s.param := rfl
@[simp] theorem State.delayUs_force (n : Nat) : (s.delayUs n).force = s.force := rfl
@[simp] theorem State.delayUs_polled (n : Nat) : (s.delayUs n).polled = s.polled := rfl
@[simp] theorem State.delayUs_fill (n : Nat) : (s.delayUs n).fill = s.fill := rfl
@[simp] theorem State.delayUs_sample (n : Nat) : (s.delayUs n).sample = s.sample := rfl
@[simp] theorem State.delayUs_ctr (n : Nat) : (s.delayUs n).ctr = s.ctr := rfl
@[simp] theorem State.delayUs_lines (n : Nat) : (s.delayUs n).lines = s.lines := rfl
@[simp] theorem State.delayUs_rx (n : Nat) : (s.delayUs n).rx = s.rx := rfl
@[simp] theorem State.delayUs_tx (n : Nat) : (s.delayUs n).tx = s.tx := rfl
@[simp] theorem State.delayUs_rate (n : Nat) : (s.delayUs n).rate = s.rate := rfl
@[simp] theorem State.delayUs_trace (n : Nat) : (s.delayUs n).trace = s.trace ++ [.delay n] := rfl
@[simp] theorem State.delayUs_link (n : Nat) : (s.delayUs n).link = s.link := rfl
@[simp] theorem State.delayUs_extFill (n : Nat) : (s.delayUs n).extFill = s.extFill := rfl
@[simp] theorem State.delayUs_extBus (n : Nat) : (s.delayUs n).extBus = s.extBus := rfl
@[simp] theorem State.delayUs_sched (n : Nat) : (s.delayUs n).sched = s.sched := rfl
@[simp] theorem State.delayUs_draws (n : Nat) : (s.delayUs n).draws = s.draws := rfl

/-! ### send -/
@[simp] theorem State.send_phase (b : Byte) : (s.send b).phase = s.phase := rfl
@[simp] theorem State.send_dev (b : Byte) : (s.send b).dev = s.dev := rfl
@[simp] theorem State.send_cmd (b : Byte) : (s.send b).cmd = s.cmd := rfl
@[simp] theorem State.send_param (b : Byte) : (s.send b).param = s.param := rfl
@[simp] theorem State.send_force (b : Byte) : (s.send b).force = s.force := rfl
@[simp] theorem State.send_polled (b : Byte) : (s.send b).polled = s.polled := rfl
@[simp] theorem State.send_fill (b : Byte) : (s.send b).fill = s.fill := rfl
@[simp] theorem State.send_sample (b : Byte) : (s.send b).sample = s.sample := rfl
@[simp] theorem State.send_ctr (b : Byte) : (s.send b).ctr = s.ctr := rfl
@[simp] theorem State.send_lines (b : Byte) : (s.send b).lines = s.lines := rfl
@[simp] theorem State.send_rx (b : Byte) : (s.send b).rx = s.rx := rfl
@[simp] theorem State.send_tx (b : Byte) : (s.send b).tx = s.tx ++ [b] := rfl
@[simp] theorem State.send_rate (b : Byte) : (s.send b).rate = s.rate := rfl
@[simp] theorem State.send_trace (b : Byte) : (s.send b).trace = s.trace ++ [.tx b] := rfl
@[simp] theorem State.send_link (b : Byte) : (s.send b).link = s.link := rfl
@[simp] theorem State.send_extFill (b : Byte) : (s.send b).extFill = s.extFill := rfl
@[simp] theorem State.send_extBus (b : Byte) : (s.send b).extBus = s.extBus := rfl
@[simp] theorem State.send_sched (b : Byte) : (s.send b).sched = s.sched := rfl
@[simp] theorem State.send_draws (b : Byte) : (s.send b).draws = s.draws := rfl

/-! ### recvTry -/
@[simp] theorem State.recvTry_phase : s.recvTry.2.phase = s.phase := rfl
@[simp] theorem State.recvTry_dev : s.recvTry.2.dev = s.dev := rfl
@[simp] theorem State.recvTry_cmd : s.recvTry.2.cmd = s.cmd := rfl
@[simp] theorem State.recvTry_param : s.recvTry.2.param = s.param := rfl
@[simp] theorem State.recvTry_force : s.recvTry.2.force = s.force := rfl
@[simp] theorem State.recvTry_polled : s.recvTry.2.polled = s.polled := rfl
@[simp] theorem State.recvTry_fill : s.recvTry.2.fill = s.fill := rfl
@[simp] theorem State.recvTry_sample : s.recvTry.2.sample = s.sample := rfl
@[simp] theorem State.recvTry_ctr : s.recvTry.2.ctr = s.ctr := rfl
@[simp] theorem State.recvTry_lines : s.recvTry.2.lines = s.lines := rfl
@[simp] theorem State.recvTry_rx : s.recvTry.2.rx = s.rx.tail := rfl
@[simp] theorem State.recvTry_tx : s.recvTry.2.tx = s.tx := rfl
@[simp] theorem State.recvTry_rate : s.recvTry.2.rate = s.rate := rfl
@[simp] theorem State.recvTry_trace : s.recvTry.2.trace = s.trace ++ [.rxT s.rx.head?] := rfl
@[simp] theorem State.recvTry_link : s.recvTry.2.link = s.link := rfl
@[simp] theorem State.recvTry_extFill : s.recvTry.2.extFill = s.extFill := rfl
@[simp] theorem State.recvTry_extBus : s.recvTry.2.extBus = s.extBus := rfl
@[simp] theorem State.recvTry_sched : s.recvTry.2.sched = s.sched := rfl
@[simp] theorem State.recvTry_draws : s.recvTry.2.draws = s.draws := rfl

/-! ### initRate -/
@[simp] theorem State.initRate_phase (v : Speed) : (s.initRate v).phase = s.phase := rfl
@[simp] theorem State.initRate_dev (v : Speed) : (s.initRate v).dev = s.dev := rfl
@[simp] theorem State.initRate_cmd (v : Speed) : (s.initRate v).cmd = s.cmd := rfl
@[simp] theorem State.initRate_param (v : Speed) : (s.initRate v).param = s.param := rfl
@[simp] theorem State.initRate_force (v : Speed) : (s.initRate v).force = s.force := rfl
@[simp] theorem State.initRate_polled (v : Speed) : (s.initRate v).polled = s.polled := rfl
@[simp] theorem State.initRate_fill (v : Speed) : (s.initRate v).fill = s.fill := rfl
@[simp] theorem State.initRate_sample (v : Speed) : (s.initRate v).sample = s.sample := rfl
@[simp] theorem State.initRate_ctr (v : Speed) : (s.initRate v).ctr = s.ctr := rfl
@[simp] theorem State.initRate_lines (v : Speed) : (s.initRate v).lines = s.lines := rfl
@[simp] theorem State.initRate_rx (v : Speed) : (s.initRate v).rx = s.rx := rfl
@[simp] theorem State.initRate_tx (v : Speed) : (s.initRate v).tx = s.tx := rfl
@[simp] theorem State.initRate_rate (v : Speed) : (s.initRate v).rate = v := rfl
@[simp] theorem State.initRate_trace (v : Speed) : (s.initRate v).trace = s.trace ++ [.init v] := rfl
@[simp] theorem State.initRate_link (v : Speed) : (s.initRate v).link = s.link := rfl
@[simp] theorem State.initRate_extFill (v : Speed) : (s.initRate v).extFill = s.extFill := rfl
@[simp] theorem State.initRate_extBus (v : Speed) : (s.initRate v).extBus = s.extBus := rfl
@[simp] theorem State.initRate_sched (v : Speed) : (s.initRate v).sched = s.sched := rfl
@[simp] theorem State.initRate_draws (v : Speed) : (s.initRate v).draws = s.draws := rfl

/-! ### exchange -/
@[simp] theorem State.exchange_phase (b : Byte) : (s.exchange b).phase = s.phase := rfl
@[simp] theorem State.exchange_dev (b : Byte) : (s.exchange b).dev = s.dev := rfl
@[simp] theorem State.exchange_cmd (b : Byte) : (s.exchange b).cmd = s.cmd := rfl
@[simp] theorem State.exchange_param (b : Byte) : (s.exchange b).param = s.param := rfl
@[simp] theorem State.exchange_force (b : Byte) : (s.exchange b).force = s.force := rfl
@[simp] theorem State.exchange_polled (b : Byte) : (s.exchange b).polled = s.polled := rfl
@[simp] theorem State.exchange_fill (b : Byte) : (s.exchange b).fill = s.fill := rfl
@[simp] theorem State.exchange_sample (b : Byte) : (s.exchange b).sample = s.sample := rfl
@[simp] theorem State.exchange_ctr (b : Byte) : (s.exchange b).ctr = s.ctr := rfl
@[simp] theorem State.exchange_lines (b : Byte) : (s.exchange b).lines = s.lines := rfl
@[simp] theorem State.exchange_rx (b : Byte) : (s.exchange b).rx = s.rx := rfl
@[simp] theorem State.exchange_tx (b : Byte) : (s.exchange b).tx = s.tx := rfl
@[simp] theorem State.exchange_rate (b : Byte) : (s.exchange b).rate = s.rate := rfl
@[simp] theorem State.exchange_trace (b : Byte) : (s.exchange b).trace = s.trace ++ [.spi b (Config.freeShiftIn s.draws)] := rfl
@[simp] theorem State.exchange_link (b : Byte) : (s.exchange b).link = s.link := rfl
@[simp] theorem State.exchange_extFill (b : Byte) : (s.exchange b).extFill = s.extFill := rfl
@[simp] theorem State.exchange_extBus (b : Byte) : (s.exchange b).extBus = s.extBus := rfl
@[simp] theorem State.exchange_sched (b : Byte) : (s.exchange b).sched = s.sched := rfl
@[simp] theorem State.exchange_draws (b : Byte) : (s.exchange b).draws = s.draws + 1 := rfl

/-! ### configRefFreq -/
@[simp] theorem State.configRefFreq_phase : s.configRefFreq.phase = s.phase := rfl
@[simp] theorem State.configRefFreq_dev : s.configRefFreq.dev = s.dev := rfl
@[simp] theorem State.configRefFreq_cmd : s.configRefFreq.cmd = s.cmd := rfl
@[simp] theorem State.configRefFreq_param : s.configRefFreq.param = s.param := rfl
@[simp] theorem State.configRefFreq_force : s.configRefFreq.force = s.force := rfl
@[simp] theorem State.configRefFreq_polled : s.configRefFreq.polled = s.polled := rfl
@[simp] theorem State.configRefFreq_fill : s.configRefFreq.fill = s.fill := rfl
@[simp] theorem State.configRefFreq_sample : s.configRefFreq.sample = s.sample := rfl
@[simp] theorem State.configRefFreq_ctr : s.configRefFreq.ctr = s.ctr := rfl
@[simp] theorem State.configRefFreq_lines : s.configRefFreq.lines = s.lines := rfl
@[simp] theorem State.configRefFreq_rx : s.configRefFreq.rx = s.rx := rfl
@[simp] theorem State.configRefFreq_tx : s.configRefFreq.tx = s.tx := rfl
@[simp] theorem State.configRefFreq_rate : s.configRefFreq.rate = s.rate := rfl
@[simp] theorem State.configRefFreq_trace : s.configRefFreq.trace = s.trace ++ [.refFreq] := rfl
@[simp] theorem State.configRefFreq_link : s.configRefFreq.link = s.link := rfl
@[simp] theorem State.configRefFreq_extFill : s.configRefFreq.extFill = s.extFill := rfl
@[simp] theorem State.configRefFreq_extBus : s.configRefFreq.extBus = s.extBus := rfl
@[simp] theorem State.configRefFreq_sched : s.configRefFreq.sched = s.sched := rfl
@[simp] theorem State.configRefFreq_draws : s.configRefFreq.draws = s.draws := rfl

/-! ### setMult -/
@[simp] theorem State.setMult_phase (m : Mult) : (s.setMult m).phase = s.phase := rfl
@[simp] theorem State.setMult_dev (m : Mult) : (s.setMult m).dev = { s.dev with mult := m } := rfl
@[simp] theorem State.setMult_cmd (m : Mult) : (s.setMult m).cmd = s.cmd := rfl
@[simp] theorem State.setMult_param (m : Mult) : (s.setMult m).param = s.param := rfl
@[simp] theorem State.setMult_force (m : Mult) : (s.setMult m).force = s.force := rfl
@[simp] theorem State.setMult_polled (m : Mult) : (s.setMult m).polled = s.polled := rfl
@[simp] theorem State.setMult_fill (m : Mult) : (s.setMult m).fill = s.fill := rfl
@[simp] theorem State.setMult_sample (m : Mult) : (s.setMult m).sample = s.sample := rfl
@[simp] theorem State.setMult_ctr (m : Mult) : (s.setMult m).ctr = s.ctr := rfl
@[simp] theorem State.setMult_lines (m : Mult) : (s.setMult m).lines = s.lines := rfl
@[simp] theorem State.setMult_rx (m : Mult) : (s.setMult m).rx = s.rx := rfl
@[simp] theorem State.setMult_tx (m : Mult) : (s.setMult m).tx = s.tx := rfl
@[simp] theorem State.setMult_rate (m : Mult) : (s.setMult m).rate = s.rate := rfl
@[simp] theorem State.setMult_trace (m : Mult) : (s.setMult m).trace = s.trace := rfl
@[simp] theorem State.setMult_link (m : Mult) : (s.setMult m).link = s.link := rfl
@[simp] theorem State.setMult_extFill (m : Mult) : (s.setMult m).extFill = s.extFill := rfl
@[simp] theorem State.setMult_extBus (m : Mult) : (s.setMult m).extBus = s.extBus := rfl
@[simp] theorem State.setMult_sched (m : Mult) : (s.setMult m).sched = s.sched := rfl
@[simp] theorem State.setMult_draws (m : Mult) : (s.setMult m).draws = s.draws := rfl

/-! ### setDac -/
@[simp] theorem State.setDac_phase (v : Byte) : (s.setDac v).phase = s.phase := rfl
@[simp] theorem State.setDac_dev (v : Byte) : (s.setDac v).dev = { s.dev with dac := v } := rfl
@[simp] theorem State.setDac_cmd (v : Byte) : (s.setDac v).cmd = s.cmd := rfl
@[simp] theorem State.setDac_param (v : Byte) : (s.setDac v).param = s.param := rfl
@[simp] theorem State.setDac_force (v : Byte) : (s.setDac v).force = s.force := rfl
@[simp] theorem State.setDac_polled (v : Byte) : (s.setDac v).polled = s.polled := rfl
@[simp] theorem State.setDac_fill (v : Byte) : (s.setDac v).fill = s.fill := rfl
@[simp] theorem State.setDac_sample (v : Byte) : (s.setDac v).sample = s.sample := rfl
@[simp] theorem State.setDac_ctr (v : Byte) : (s.setDac v).ctr = s.ctr := rfl
@[simp] theorem State.setDac_lines (v : Byte) : (s.setDac v).lines = s.lines := rfl
@[simp] theorem State.setDac_rx (v : Byte) : (s.setDac v).rx = s.rx := rfl
@[simp] theorem State.setDac_tx (v : Byte) : (s.setDac v).tx = s.tx := rfl
@[simp] theorem State.setDac_rate (v : Byte) : (s.setDac v).rate = s.rate := rfl
@[simp] theorem State.setDac_trace (v : Byte) : (s.setDac v).trace = s.trace := rfl
@[simp] theorem State.setDac_link (v : Byte) : (s.setDac v).link = s.link := rfl
@[simp] theorem State.setDac_extFill (v : Byte) : (s.setDac v).extFill = s.extFill := rfl
@[simp] theorem State.setDac_extBus (v : Byte) : (s.setDac v).extBus = s.extBus := rfl
@[simp] theorem State.setDac_sched (v : Byte) : (s.setDac v).sched = s.sched := rfl
@[simp] theorem State.setDac_draws (v : Byte) : (s.setDac v).draws = s.draws := rfl

/-! ### setPol -/
@[simp] theorem State.setPol_phase (q : Polarity) : (s.setPol q).phase = s.phase := rfl
@[simp] theorem State.setPol_dev (q : Polarity) : (s.setPol q).dev = { s.dev with pol := q } := rfl
@[simp] theorem State.setPol_cmd (q : Polarity) : (s.setPol q).cmd = s.cmd := rfl
@[simp] theorem State.setPol_param (q : Polarity) : (s.setPol q).param = s.param := rfl
@[simp] theorem State.setPol_force (q : Polarity) : (s.setPol q).force = s.force := rfl
@[simp] theorem State.setPol_polled (q : Polarity) : (s.setPol q).polled = s.polled := rfl
@[simp] theorem State.setPol_fill (q : Polarity) : (s.setPol q).fill = s.fill := rfl
@[simp] theorem State.setPol_sample (q : Polarity) : (s.setPol q).sample = s.sample := rfl
@[simp] theorem State.setPol_ctr (q : Polarity) : (s.setPol q).ctr = s.ctr := rfl
@[simp] theorem State.setPol_lines (q : Polarity) : (s.setPol q).lines = s.lines := rfl
@[simp] theorem State.setPol_rx (q : Polarity) : (s.setPol q).rx = s.rx := rfl
@[simp] theorem State.setPol_tx (q : Polarity) : (s.setPol q).tx = s.tx := rfl
@[simp] theorem State.setPol_rate (q : Polarity) : (s.setPol q).rate = s.rate := rfl
@[simp] theorem State.setPol_trace (q : Polarity) : (s.setPol q).trace = s.trace := rfl
@[simp] theorem State.setPol_link (q : Polarity) : (s.setPol q).link = s.link := rfl
@[simp] theorem State.setPol_extFill (q : Polarity) : (s.setPol q).extFill = s.extFill := rfl
@[simp] theorem State.setPol_extBus (q : Polarity) : (s.setPol q).extBus = s.extBus := rfl
@[simp] theorem State.setPol_sched (q : Polarity) : (s.setPol q).sched = s.sched := rfl
@[simp] theorem State.setPol_draws (q : Polarity) : (s.setPol q).draws = s.draws := rfl

/-! ### setSpeed -/
@[simp] theorem State.setSpeed_phase (v : Speed) : (s.setSpeed v).phase = s.phase := rfl
@[simp] theorem State.setSpeed_dev (v : Speed) : (s.setSpeed v).dev = { s.dev with speed := v } := rfl
@[simp] theorem State.setSpeed_cmd (v : Speed) : (s.setSpeed v).cmd = s.cmd := rfl
@[simp] theorem State.setSpeed_param (v : Speed) : (s.setSpeed v).param = s.param := rfl
@[simp] theorem State.setSpeed_force (v : Speed) : (s.setSpeed v).force = s.force := rfl
@[simp] theorem State.setSpeed_polled (v : Speed) : (s.setSpeed v).polled = s.polled := rfl
@[simp] theorem State.setSpeed_fill (v : Speed) : (s.setSpeed v).fill = s.fill := rfl
@[simp] theorem State.setSpeed_sample (v : Speed) : (s.setSpeed v).sample = s.sample := rfl
@[simp] theorem State.setSpeed_ctr (v : Speed) : (s.setSpeed v).ctr = s.ctr := rfl
@[simp] theorem State.setSpeed_lines (v : Speed) : (s.setSpeed v).lines = s.lines := rfl
@[simp] theorem State.setSpeed_rx (v : Speed) : (s.setSpeed v).rx = s.rx := rfl
@[simp] theorem State.setSpeed_tx (v : Speed) : (s.setSpeed v).tx = s.tx := rfl
@[simp] theorem State.setSpeed_rate (v : Speed) : (s.setSpeed v).rate = s.rate := rfl
@[simp] theorem State.setSpeed_trace (v : Speed) : (s.setSpeed v).trace = s.trace := rfl
@[simp] theorem State.setSpeed_link (v : Speed) : (s.setSpeed v).link = s.link := rfl
@[simp] theorem State.setSpeed_extFill (v : Speed) : (s.setSpeed v).extFill = s.extFill := rfl
@[simp] theorem State.setSpeed_extBus (v : Speed) : (s.setSpeed v).extBus = s.extBus := rfl
@[simp] theorem State.setSpeed_sched (v : Speed) : (s.setSpeed v).sched = s.sched := rfl
@[simp] theorem State.setSpeed_draws (v : Speed) : (s.setSpeed v).draws = s.draws := rfl

/-! ### setCmd -/
@[simp] theorem State.setCmd_phase (b : Byte) : (s.setCmd b).phase = s.phase := rfl
@[simp] theorem State.setCmd_dev (b : Byte) : (s.setCmd b).dev = s.dev := rfl
@[simp] theorem State.setCmd_cmd (b : Byte) : (s.setCmd b).cmd = b := rfl
@[simp] theorem State.setCmd_param (b : Byte) : (s.setCmd b).param = s.param := rfl
@[simp] theorem State.setCmd_force (b : Byte) : (s.setCmd b).force = s.force := rfl
@[simp] theorem State.setCmd_polled (b : Byte) : (s.setCmd b).polled = s.polled := rfl
@[simp] theorem State.setCmd_fill (b : Byte) : (s.setCmd b).fill = s.fill := rfl
@[simp] theorem State.setCmd_sample (b : Byte) : (s.setCmd b).sample = s.sample := rfl
@[simp] theorem State.setCmd_ctr (b : Byte) : (s.setCmd b).ctr = s.ctr := rfl
@[simp] theorem State.setCmd_lines (b : Byte) : (s.setCmd b).lines = s.lines := rfl
@[simp] theorem State.setCmd_rx (b : Byte) : (s.setCmd b).rx = s.rx := rfl
@[simp] theorem State.setCmd_tx (b : Byte) : (s.setCmd b).tx = s.tx := rfl
@[simp] theorem State.setCmd_rate (b : Byte) : (s.setCmd b).rate = s.rate := rfl
@[simp] theorem State.setCmd_trace (b : Byte) : (s.setCmd b).trace = s.trace := rfl
@[simp] theorem State.setCmd_link (b : Byte) : (s.setCmd b).link = s.link := rfl
@[simp] theorem State.setCmd_extFill (b : Byte) : (s.setCmd b).extFill = s.extFill := rfl
@[simp] theorem State.setCmd_extBus (b : Byte) : (s.setCmd b).extBus = s.extBus := rfl
@[simp] theorem State.setCmd_sched (b : Byte) : (s.setCmd b).sched = s.sched := rfl
@[simp] theorem State.setCmd_draws (b : Byte) : (s.setCmd b).draws = s.draws := rfl

/-! ### setParam -/
@[simp] theorem State.setParam_phase (b : Byte) : (s.setParam b).phase = s.phase := rfl
@[simp] theorem State.setParam_dev (b : Byte) : (s.setParam b).dev = s.dev := rfl
@[simp] theorem State.setParam_cmd (b : Byte) : (s.setParam b).cmd = s.cmd := rfl
@[simp] theorem State.setParam_param (b : Byte) : (s.setParam b).param = b := rfl
@[simp] theorem State.setParam_force (b : Byte) : (s.setParam b).force = s.force := rfl
@[simp] theorem State.setParam_polled (b : Byte) : (s.setParam b).polled = s.polled := rfl
@[simp] theorem State.setParam_fill (b : Byte) : (s.setParam b).fill = s.fill := rfl
@[simp] theorem State.setParam_sample (b : Byte) : (s.setParam b).sample = s.sample := rfl
@[simp] theorem State.setParam_ctr (b : Byte) : (s.setParam b).ctr = s.ctr := rfl
@[simp] theorem State.setParam_lines (b : Byte) : (s.setParam b).lines = s.lines := rfl
@[simp] theorem State.setParam_rx (b : Byte) : (s.setParam b).rx = s.rx := rfl
@[simp] theorem State.setParam_tx (b : Byte) : (s.setParam b).tx = s.tx := rfl
@[simp] theorem State.setParam_rate (b : Byte) : (s.setParam b).rate = s.rate := rfl
@[simp] theorem State.setParam_trace (b : Byte) : (s.setParam b).trace = s.trace := rfl
@[simp] theorem State.setParam_link (b : Byte) : (s.setParam b).link = s.link := rfl
@[simp] theorem State.setParam_extFill (b : Byte) : (s.setParam b).extFill = s.extFill := rfl
@[simp] theorem State.setParam_extBus (b : Byte) : (s.setParam b).extBus = s.extBus := rfl
@[simp] theorem State.setParam_sched (b : Byte) : (s.setParam b).sched = s.sched := rfl
@[simp] theorem State.setParam_draws (b : Byte) : (s.setParam b).draws = s.draws := rfl

/-! ### setForce -/
@[simp] theorem State.setForce_phase (f : Bool) : (s.setForce f).phase = s.phase := rfl
@[simp] theorem State.setForce_dev (f : Bool) : (s.setForce f).dev = s.dev := rfl
@[simp] theorem State.setForce_cmd (f : Bool) : (s.setForce f).cmd = s.cmd := rfl
@[simp] theorem State.setForce_param (f : Bool) : (s.setForce f).param = s.param := rfl
@[simp] theorem State.setForce_force (f : Bool) : (s.setForce f).force = f := rfl
@[simp] theorem State.setForce_polled (f : Bool) : (s.setForce f).polled = s.polled := rfl
@[simp] theorem State.setForce_fill (f : Bool) : (s.setForce f).fill = s.fill := rfl
@[simp] theorem State.setForce_sample (f : Bool) : (s.setForce f).sample = s.sample := rfl
@[simp] theorem State.setForce_ctr (f : Bool) : (s.setForce f).ctr = s.ctr := rfl
@[simp] theorem State.setForce_lines (f : Bool) : (s.setForce f).lines = s.lines := rfl
@[simp] theorem State.setForce_rx (f : Bool) : (s.setForce f).rx = s.rx := rfl
@[simp] theorem State.setForce_tx (f : Bool) : (s.setForce f).tx = s.tx := rfl
@[simp] theorem State.setForce_rate (f : Bool) : (s.setForce f).rate = s.rate := rfl
@[simp] theorem State.setForce_trace (f : Bool) : (s.setForce f).trace = s.trace := rfl
@[simp] theorem State.setForce_link (f : Bool) : (s.setForce f).link = s.link := rfl
@[simp] theorem State.setForce_extFill (f : Bool) : (s.setForce f).extFill = s.extFill := rfl
@[simp] theorem State.setForce_extBus (f : Bool) : (s.setForce f).extBus = s.extBus := rfl
@[simp] theorem State.setForce_sched (f : Bool) : (s.setForce f).sched = s.sched := rfl
@[simp] theorem State.setForce_draws (f : Bool) : (s.setForce f).draws = s.draws := rfl

/-! ### setPolled -/
@[simp] theorem State.setPolled_phase (o : Option Byte) : (s.setPolled o).phase = s.phase := rfl
@[simp] theorem State.setPolled_dev (o : Option Byte) : (s.setPolled o).dev = s.dev := rfl
@[simp] theorem State.setPolled_cmd (o : Option Byte) : (s.setPolled o).cmd = s.cmd := rfl
@[simp] theorem State.setPolled_param (o : Option Byte) : (s.setPolled o).param = s.param := rfl
@[simp] theorem State.setPolled_force (o : Option Byte) : (s.setPolled o).force = s.force := rfl
@[simp] theorem State.setPolled_polled (o : Option Byte) : (s.setPolled o).polled = o := rfl
@[simp] theorem State.setPolled_fill (o : Option Byte) : (s.setPolled o).fill = s.fill := rfl
@[simp] theorem State.setPolled_sample (o : Option Byte) : (s.setPolled o).sample = s.sample := rfl
@[simp] theorem State.setPolled_ctr (o : Option Byte) : (s.setPolled o).ctr = s.ctr := rfl
@[simp] theorem State.setPolled_lines (o : Option Byte) : (s.setPolled o).lines = s.lines := rfl
@[simp] theorem State.setPolled_rx (o : Option Byte) : (s.setPolled o).rx = s.rx := rfl
@[simp] theorem State.setPolled_tx (o : Option Byte) : (s.setPolled o).tx = s.tx := rfl
@[simp] theorem State.setPolled_rate (o : Option Byte) : (s.setPolled o).rate = s.rate := rfl
@[simp] theorem State.setPolled_trace (o : Option Byte) : (s.setPolled o).trace = s.trace := rfl
@[simp] theorem State.setPolled_link (o : Option Byte) : (s.setPolled o).link = s.link := rfl
@[simp] theorem State.setPolled_extFill (o : Option Byte) : (s.setPolled o).extFill = s.extFill := rfl
@[simp] theorem State.setPolled_extBus (o : Option Byte) : (s.setPolled o).extBus = s.extBus := rfl
@[simp] theorem State.setPolled_sched (o : Option Byte) : (s.setPolled o).sched = s.sched := rfl
@[simp] theorem State.setPolled_draws (o : Option Byte) : (s.setPolled o).draws = s.draws := rfl

/-! ### setFill -/
@[simp] theorem State.setFill_phase (v : Level) : (s.setFill v).phase = s.phase := rfl
@[simp] theorem State.setFill_dev (v : Level) : (s.setFill v).dev = s.dev := rfl
@[simp] theorem State.setFill_cmd (v : Level) : (s.setFill v).cmd = s.cmd := rfl
@[simp] theorem State.setFill_param (v : Level) : (s.setFill v).param = s.param := rfl
@[simp] theorem State.setFill_force (v : Level) : (s.setFill v).force = s.force := rfl
@[simp] theorem State.setFill_polled (v : Level) : (s.setFill v).polled = s.polled := rfl
@[simp] theorem State.setFill_fill (v : Level) : (s.setFill v).fill = v := rfl
@[simp] theorem State.setFill_sample (v : Level) : (s.setFill v).sample = s.sample := rfl
@[simp] theorem State.setFill_ctr (v : Level) : (s.setFill v).ctr = s.ctr := rfl
@[simp] theorem State.setFill_lines (v : Level) : (s.setFill v).lines = s.lines := rfl
@[simp] theorem State.setFill_rx (v : Level) : (s.setFill v).rx = s.rx := rfl
@[simp] theorem State.setFill_tx (v : Level) : (s.setFill v).tx = s.tx := rfl
@[simp] theorem State.setFill_rate (v : Level) : (s.setFill v).rate = s.rate := rfl
@[simp] theorem State.setFill_trace (v : Level) : (s.setFill v).trace = s.trace := rfl
@[simp] theorem State.setFill_link (v : Level) : (s.setFill v).link = s.link := rfl
@[simp] theorem State.setFill_extFill (v : Level) : (s.setFill v).extFill = s.extFill := rfl
@[simp] theorem State.setFill_extBus (v : Level) : (s.setFill v).extBus = s.extBus := rfl
@[simp] theorem State.setFill_sched (v : Level) : (s.setFill v).sched = s.sched := rfl
@[simp] theorem State.setFill_draws (v : Level) : (s.setFill v).draws = s.draws := rfl

/-! ### setSample -/
@[simp] theorem State.setSample_phase (b : Byte) : (s.setSample b).phase = s.phase := rfl
@[simp] theorem State.setSample_dev (b : Byte) : (s.setSample b).dev = s.dev := rfl
@[simp] theorem State.setSample_cmd (b : Byte) : (s.setSample b).cmd = s.cmd := rfl
@[simp] theorem State.setSample_param (b : Byte) : (s.setSample b).param = s.param := rfl
@[simp] theorem State.setSample_force (b : Byte) : (s.setSample b).force = s.force := rfl
@[simp] theorem State.setSample_polled (b : Byte) : (s.setSample b).polled = s.polled := rfl
@[simp] theorem State.setSample_fill (b : Byte) : (s.setSample b).fill = s.fill := rfl
@[simp] theorem State.setSample_sample (b : Byte) : (s.setSample b).sample = b := rfl
@[simp] theorem State.setSample_ctr (b : Byte) : (s.setSample b).ctr = s.ctr := rfl
@[simp] theorem State.setSample_lines (b : Byte) : (s.setSample b).lines = s.lines := rfl
@[simp] theorem State.setSample_rx (b : Byte) : (s.setSample b).rx = s.rx := rfl
@[simp] theorem State.setSample_tx (b : Byte) : (s.setSample b).tx = s.tx := rfl
@[simp] theorem State.setSample_rate (b : Byte) : (s.setSample b).rate = s.rate := rfl
@[simp] theorem State.setSample_trace (b : Byte) : (s.setSample b).trace = s.trace := rfl
@[simp] theorem State.setSample_link (b : Byte) : (s.setSample b).link = s.link := rfl
@[simp] theorem State.setSample_extFill (b : Byte) : (s.setSample b).extFill = s.extFill := rfl
@[simp] theorem State.setSample_extBus (b : Byte) : (s.setSample b).extBus = s.extBus := rfl
@[simp] theorem State.setSample_sched (b : Byte) : (s.setSample b).sched = s.sched := rfl
@[simp] theorem State.setSample_draws (b : Byte) : (s.setSample b).draws = s.draws := rfl

/-! ### setCtr -/
@[simp] theorem State.setCtr_phase (c : Ctr) : (s.setCtr c).phase = s.phase := rfl
@[simp] theorem State.setCtr_dev (c : Ctr) : (s.setCtr c).dev = s.dev := rfl
@[simp] theorem State.setCtr_cmd (c : Ctr) : (s.setCtr c).cmd = s.cmd := rfl
@[simp] theorem State.setCtr_param (c : Ctr) : (s.setCtr c).param = s.param := rfl
@[simp] theorem State.setCtr_force (c : Ctr) : (s.setCtr c).force = s.force := rfl
@[simp] theorem State.setCtr_polled (c : Ctr) : (s.setCtr c).polled = s.polled := rfl
@[simp] theorem State.setCtr_fill (c : Ctr) : (s.setCtr c).fill = s.fill := rfl
@[simp] theorem State.setCtr_sample (c : Ctr) : (s.setCtr c).sample = s.sample := rfl
@[simp] theorem State.setCtr_ctr (c : Ctr) : (s.setCtr c).ctr = c := rfl
@[simp] theorem State.setCtr_lines (c : Ctr) : (s.setCtr c).lines = s.lines := rfl
@[simp] theorem State.setCtr_rx (c : Ctr) : (s.setCtr c).rx = s.rx := rfl
@[simp] theorem State.setCtr_tx (c : Ctr) : (s.setCtr c).tx = s.tx := rfl
@[simp] theorem State.setCtr_rate (c : Ctr) : (s.setCtr c).rate = s.rate := rfl
@[simp] theorem State.setCtr_trace (c : Ctr) : (s.setCtr c).trace = s.trace := rfl
@[simp] theorem State.setCtr_link (c : Ctr) : (s.setCtr c).link = s.link := rfl
@[simp] theorem State.setCtr_extFill (c : Ctr) : (s.setCtr c).extFill = s.extFill := rfl
@[simp] theorem State.setCtr_extBus (c : Ctr) : (s.setCtr c).extBus = s.extBus := rfl
@[simp] theorem State.setCtr_sched (c : Ctr) : (s.setCtr c).sched = s.sched := rfl
@[simp] theorem State.setCtr_draws (c : Ctr) : (s.setCtr c).draws = s.draws := rfl

/-! ### hostSend -/
@[simp] theorem State.hostSend_phase (b : Byte) : (s.hostSend b).phase = s.phase := rfl
@[simp] theorem State.hostSend_dev (b : Byte) : (s.hostSend b).dev = s.dev := rfl
@[simp] theorem State.hostSend_cmd (b : Byte) : (s.hostSend b).cmd = s.cmd := rfl
@[simp] theorem State.hostSend_param (b : Byte) : (s.hostSend b).param = s.param := rfl
@[simp] theorem State.hostSend_force (b : Byte) : (s.hostSend b).force = s.force := rfl
@[simp] theorem State.hostSend_polled (b : Byte) : (s.hostSend b).polled = s.polled := rfl
@[simp] theorem State.hostSend_fill (b : Byte) : (s.hostSend b).fill = s.fill := rfl
@[simp] theorem State.hostSend_sample (b : Byte) : (s.hostSend b).sample = s.sample := rfl
@[simp] theorem State.hostSend_ctr (b : Byte) : (s.hostSend b).ctr = s.ctr := rfl
@[simp] theorem State.hostSend_lines (b : Byte) : (s.hostSend b).lines = s.lines := rfl
@[simp] theorem State.hostSend_rx (b : Byte) : (s.hostSend b).rx = s.rx ++ [b] := rfl
@[simp] theorem State.hostSend_tx (b : Byte) : (s.hostSend b).tx = s.tx := rfl
@[simp] theorem State.hostSend_rate (b : Byte) : (s.hostSend b).rate = s.rate := rfl
@[simp] theorem State.hostSend_trace (b : Byte) : (s.hostSend b).trace = s.trace := rfl
@[simp] theorem State.hostSend_link (b : Byte) : (s.hostSend b).link = s.link := rfl
@[simp] theorem State.hostSend_extFill (b : Byte) : (s.hostSend b).extFill = s.extFill := rfl
@[simp] theorem State.hostSend_extBus (b : Byte) : (s.hostSend b).extBus = s.extBus := rfl
@[simp] theorem State.hostSend_sched (b : Byte) : (s.hostSend b).sched = s.sched := rfl
@[simp] theorem State.hostSend_draws (b : Byte) : (s.hostSend b).draws = s.draws := rfl

/-! ### hostTake -/
@[simp] theorem State.hostTake_phase : s.hostTake.phase = s.phase := rfl
@[simp] theorem State.hostTake_dev : s.hostTake.dev = s.dev := rfl
@[simp] theorem State.hostTake_cmd : s.hostTake.cmd = s.cmd := rfl
@[simp] theorem State.hostTake_param : s.hostTake.param = s.param := rfl
@[simp] theorem State.hostTake_force : s.hostTake.force = s.force := rfl
@[simp] theorem State.hostTake_polled : s.hostTake.polled = s.polled := rfl
@[simp] theorem State.hostTake_fill : s.hostTake.fill = s.fill := rfl
@[simp] theorem State.hostTake_sample : s.hostTake.sample = s.sample := rfl
@[simp] theorem State.hostTake_ctr : s.hostTake.ctr = s.ctr := rfl
@[simp] theorem State.hostTake_lines : s.hostTake.lines = s.lines := rfl
@[simp] theorem State.hostTake_rx : s.hostTake.rx = s.rx := rfl
@[simp] theorem State.hostTake_tx : s.hostTake.tx = s.tx.tail := rfl
@[simp] theorem State.hostTake_rate : s.hostTake.rate = s.rate := rfl
@[simp] theorem State.hostTake_trace : s.hostTake.trace = s.trace := rfl
@[simp] theorem State.hostTake_link : s.hostTake.link = s.link := rfl
@[simp] theorem State.hostTake_extFill : s.hostTake.extFill = s.extFill := rfl
@[simp] theorem State.hostTake_extBus : s.hostTake.extBus = s.extBus := rfl
@[simp] theorem State.hostTake_sched : s.hostTake.sched = s.sched := rfl
@[simp] theorem State.hostTake_draws : s.hostTake.draws = s.draws := rfl

/-! ### popMove -/
@[simp] theorem State.popMove_phase : s.popMove.phase = s.phase := rfl
@[simp] theorem State.popMove_dev : s.popMove.dev = s.dev := rfl
@[simp] theorem State.popMove_cmd : s.popMove.cmd = s.cmd := rfl
@[simp] theorem State.popMove_param : s.popMove.param = s.param := rfl
@[simp] theorem State.popMove_force : s.popMove.force = s.force := rfl
@[simp] theorem State.popMove_polled : s.popMove.polled = s.polled := rfl
@[simp] theorem State.popMove_fill : s.popMove.fill = s.fill := rfl
@[simp] theorem State.popMove_sample : s.popMove.sample = s.sample := rfl
@[simp] theorem State.popMove_ctr : s.popMove.ctr = s.ctr := rfl
@[simp] theorem State.popMove_lines : s.popMove.lines = s.lines := rfl
@[simp] theorem State.popMove_rx : s.popMove.rx = s.rx := rfl
@[simp] theorem State.popMove_tx : s.popMove.tx = s.tx := rfl
@[simp] theorem State.popMove_rate : s.popMove.rate = s.rate := rfl
@[simp] theorem State.popMove_trace : s.popMove.trace = s.trace := rfl
@[simp] theorem State.popMove_link : s.popMove.link = s.link := rfl
@[simp] theorem State.popMove_extFill : s.popMove.extFill = s.extFill := rfl
@[simp] theorem State.popMove_extBus : s.popMove.extBus = s.extBus := rfl
@[simp] theorem State.popMove_sched : s.popMove.sched = s.sched.tail := rfl
@[simp] theorem State.popMove_draws : s.popMove.draws = s.draws := rfl

@[simp] theorem State.readLevel_level (l : Line) : (s.readLevel l).1 = s.levelOf l := rfl
@[simp] theorem State.readBus_byte : s.readBus.1 = s.busSample := rfl
@[simp] theorem State.recvTry_byte : s.recvTry.1 = s.rx.head? := rfl

end Sys2Proof.Machine
end

