-- ==== Sys2Proof/Laws/Ops.lean ====
section
/-! SUPPORT. One lemma per shared operation that says once all it can do; proofs cite these and do not unfold it. -/

namespace Sys2Proof.Machine

@[simp] theorem onNext_next (s : State) (f : State → Result) : onNext (.next s) f = f s := rfl

@[simp] theorem onNext_refused (r : Refusal) (f : State → Result) : onNext (.refused r) f = .refused r := rfl

/-- `Send` and the rest of its step: while the link is sending it is held and the transport finishes, else it is
accepted. -/
theorem sendThen_cases {b : Byte} {s t : State} {rest : State → State} (h : sendThen b s rest = .next t) :
    s.link.sending = true ∧ t = s.finishSending ∨ s.link.sending = false ∧ t = rest (s.send b) := by
  unfold sendThen at h
  split at h
  · next hb => exact .inl ⟨hb, by cases h; rfl⟩
  · next hb => exact .inr ⟨by simpa using hb, by cases h; rfl⟩

theorem sendThen_idle {b : Byte} {s : State} {rest : State → State} (h : s.link.sending = false) :
    sendThen b s rest = .next (rest (s.send b)) := by simp [sendThen, h]

theorem sendThen_busy {b : Byte} {s : State} {rest : State → State} (h : s.link.sending = true) :
    sendThen b s rest = .next s.finishSending := by simp [sendThen, h]

/-- The link is quiet exactly when `rx` is empty and no byte is in flight (R59). -/
theorem linkQuiet_iff (s : State) :
    s.linkQuiet = true ↔ s.rx = [] ∧ s.link.sending = false ∧ s.link.receiving = false := by
  simp [State.linkQuiet, and_assoc]

/-- `TransportInit` sets the rate on a quiet link, and is outside the model on any other (R59). -/
theorem transportInit_cases (v : Speed) (s : State) :
    s.linkQuiet = true ∧ transportInit v s = .next (s.initRate v) ∨
    s.linkQuiet = false ∧ transportInit v s = .refused .linkNotQuiet := by
  cases h : s.linkQuiet <;> simp [transportInit, h]

/-- `RecvBlocking` answers exactly when `rx` has a byte, and takes it (R57). -/
theorem recvBlocking_cases {s t : State} {b : Byte} (h : s.recvBlocking = some (b, t)) :
    ∃ rest, s.rx = b :: rest ∧ t = { s with rx := rest, trace := s.trace ++ [.rxB b] } := by
  unfold State.recvBlocking at h
  split at h
  · cases h
  · next b' rest hrx => cases h; exact ⟨rest, hrx, rfl⟩

theorem recvBlocking_none {s : State} : s.recvBlocking = none ↔ s.rx = [] := by
  unfold State.recvBlocking
  split <;> simp_all

/-- `ReadBus` gives bit `BUS_MAP(i)` the level of `L_DATA[i]` (R107). -/
theorem readBus_bit (s : State) (i : Fin 8) :
    s.ext (.data i) = Level.ofBit (s.readBus.1.getLsbD (Config.busMap i).val) := rfl

/-- A line write changes the line registers as its event says, the trace by that event, and nothing else. -/
theorem perform_eq (s : State) (w : LineWrite) :
    s.perform w = { s with lines := w.event.onLines s.lines, trace := s.trace ++ [w.event] } := by
  cases w <;> rfl

/-- The write of `MUL(k)` is the one of the table (R167). -/
theorem mulWrite_event (m : Mult) (k : Fin mulSteps) : (mulWrite m k).event = mulEvent m k := by
  cases m <;> fin_cases k <;> rfl

/-- The phase after `MUL(k)` (R160). -/
theorem afterMul_eq (k : Fin mulSteps) : afterMul k = if k.val = 3 then .dFetch else .mul (k + 1) := by
  fin_cases k <;> rfl

/-- The phase after `VER(k)` (R160). -/
theorem afterVer_eq (k : Fin 16) : afterVer k = if k.val = 15 then .dFetch else .ver (k + 1) := by
  fin_cases k <;> rfl

/-- The writes of the start-up list are those of its table (R212). -/
theorem bootWrites_events : bootWrites.map LineWrite.event = startUpTrace.take 16 := rfl

/-- A move of another agent touches nothing of `CTRL` but the two byte streams (R55, R62). -/
theorem envMove_frame {s t : State} {m : Move} (h : envMove s m = some (.next t)) :
    t = { s with rx := t.rx, tx := t.tx, link := t.link, extFill := t.extFill, extBus := t.extBus } ∧
      (s.booting = true → t.rx = s.rx ∧ t.tx = s.tx) := by
  cases m <;> simp only [envMove, hostMove, Option.some.injEq, reduceCtorEq] at h
  · split at h <;> simp_all [State.hostSend]
    cases h; simp
  · split at h <;> simp_all [State.hostTake]
    cases h; simp
  · cases h; simp
  · cases h; simp
  · cases h; simp

/-- A move of another agent is refused only for `HOST`, before start-up is over (R214). -/
theorem envMove_refused {s : State} {m : Move} {r : Refusal} (h : envMove s m = some (.refused r)) :
    r = .hostBeforeReady ∧ s.booting = true := by
  cases m <;> simp only [envMove, hostMove, Option.some.injEq, reduceCtorEq] at h <;>
    (split at h <;> simp_all)

end Sys2Proof.Machine
end

