-- ==== Sys2Proof/Laws/PerInstr.lean ====
section
/-! SUPPORT. What holds of every instruction as syntax, one lemma per constructor of `Instr`. -/

/-- The encoding of an instruction starts with its command byte, is two bytes long exactly when that byte
asks for a parameter (R80, R81), and decodes back with whatever follows it left over. -/
def Sys2Proof.Laws.EncodingShape.Statement (i : Sys2Proof.Instr) : Prop :=
  (Sys2Proof.encode i).head? = some (Sys2Proof.opByte i) ∧
  (Sys2Proof.encode i).length = (if Sys2Proof.head (Sys2Proof.opByte i) = .wantsParam then 2 else 1) ∧
  ∀ rest, Sys2Proof.decode (Sys2Proof.encode i ++ rest) = .ok (i, rest)

namespace Sys2Proof.Laws.EncodingShape

theorem version : Statement .version := ⟨rfl, rfl, fun _ => rfl⟩
theorem setmult (p : Byte) : Statement (.setmult p) := ⟨rfl, rfl, fun _ => rfl⟩
theorem setdac (p : Byte) : Statement (.setdac p) := ⟨rfl, rfl, fun _ => rfl⟩
theorem capture : Statement .capture := ⟨rfl, rfl, fun _ => rfl⟩
theorem fcapture : Statement .fcapture := ⟨rfl, rfl, fun _ => rfl⟩
theorem send : Statement .send := ⟨rfl, rfl, fun _ => rfl⟩
theorem setedge (p : Byte) : Statement (.setedge p) := ⟨rfl, rfl, fun _ => rfl⟩
theorem togbaud : Statement .togbaud := ⟨rfl, rfl, fun _ => rfl⟩
theorem stop : Statement .stop := ⟨rfl, rfl, fun _ => rfl⟩

end Sys2Proof.Laws.EncodingShape
end

