-- ==== Sys2Proof/Laws/Step.lean ====
section
/-! SUPPORT. What a step can do, said once: whose move it is, and `CTRL`'s step phase by phase. Proofs cite these and
do not unfold step, turn or exec. -/

namespace Sys2Proof.Machine

variable {s t : State}

theorem popMove_of_nil (h : s.sched = []) : s.popMove = s := by
  cases s; simp_all [State.popMove]

theorem ctrlMoves_of_nil (h : s.sched = []) : s.ctrlMoves = true := by simp [State.ctrlMoves, h]

/-- `CTRL`'s step, once its turn is taken off the schedule. -/
theorem step_ctrl (h : s.ctrlMoves = true) : step s = (ctrlTurn s.popMove).result := by
  unfold step turn
  unfold State.ctrlMoves at h
  split at h <;> simp_all [envMove, popMove_of_nil]

theorem step_nil (h : s.sched = []) : step s = (ctrlTurn s).result := by
  rw [step_ctrl (ctrlMoves_of_nil h), popMove_of_nil h]

/-- Exactly one agent moves (R15). -/
theorem step_cases (s : State) :
    s.ctrlMoves = true ∧ step s = (ctrlTurn s.popMove).result ∨
    ∃ m, s.sched.head? = some m ∧ m ≠ .ctrl ∧ envMove s.popMove m = some (step s) := by
  cases h : s.sched.head? with
  | none => exact .inl ⟨by simp [State.ctrlMoves, h], step_ctrl (by simp [State.ctrlMoves, h])⟩
  | some m =>
    cases m with
    | ctrl => exact .inl ⟨by simp [State.ctrlMoves, h], step_ctrl (by simp [State.ctrlMoves, h])⟩
    | _ => exact .inr ⟨_, rfl, by simp, by simp [step, turn, h, envMove, Turn.result]⟩

/-! ## `CTRL`'s step at each phase -/

theorem ctrl_boot {k : Fin 18} (h : s.phase = .boot k) : (ctrlTurn s).result = bootStep k s := by
  simp [ctrlTurn, h, Turn.result]

theorem ctrl_fetch_empty (h : s.phase = .dFetch) (hr : s.rx = []) : (ctrlTurn s).result = .next s := by
  simp [ctrlTurn, h, fetchTurn, State.recvBlocking, hr, Turn.result]

/-- The state in which the dispatcher decodes a command byte: received, and in `cmd` (R161). -/
theorem ctrl_fetch {b : Byte} {rest : List Byte} (h : s.phase = .dFetch) (hr : s.rx = b :: rest) :
    (ctrlTurn s).result =
      match head b with
      | .whole i => exec i { s with rx := rest, trace := s.trace ++ [.rxB b], cmd := b }
      | .wantsParam => .next { s with rx := rest, trace := s.trace ++ [.rxB b], cmd := b, phase := .dParam }
      | .unrecognised => .next { s with rx := rest, trace := s.trace ++ [.rxB b], cmd := b, phase := .dFetch } := by
  simp only [ctrlTurn, h, fetchTurn, State.recvBlocking, hr]
  cases head b <;> rfl

theorem ctrl_param_empty (h : s.phase = .dParam) (hr : s.rx = []) : (ctrlTurn s).result = .next s := by
  simp [ctrlTurn, h, paramTurn, State.recvBlocking, hr, Turn.result]

theorem ctrl_param {p : Byte} {rest : List Byte} (h : s.phase = .dParam) (hr : s.rx = p :: rest) :
    (ctrlTurn s).result =
      match withParam s.cmd p with
      | some i => exec i { s with rx := rest, trace := s.trace ++ [.rxB p], param := p }
      | none => .refused .strayParameter := by
  simp only [ctrlTurn, h, paramTurn, State.recvBlocking, hr]
  cases withParam s.cmd p <;> rfl

theorem ctrl_ver {k : Fin 16} (h : s.phase = .ver k) :
    (ctrlTurn s).result = sendThen (Params.versionByte k) s fun t => t.goto (afterVer k) := by
  simp [ctrlTurn, h, Turn.result, exec, execVersion]

theorem ctrl_mul {k : Fin 4} (h : s.phase = .mul k) :
    (ctrlTurn s).result = .next ((s.perform (mulWrite s.dev.mult k)).goto (afterMul k)) := by
  simp [ctrlTurn, h, Turn.result, exec, execSetmult]

theorem ctrl_dacCsLo (h : s.phase = .dacCsLo) :
    (ctrlTurn s).result = .next ((s.setLevel .daccs .off).goto .dacHi) := by
  simp [ctrlTurn, h, Turn.result, exec, execSetdac]

theorem ctrl_dacHi (h : s.phase = .dacHi) :
    (ctrlTurn s).result = .next ((s.exchange (dacHigh s.dev.dac)).goto .dacLo) := by
  simp [ctrlTurn, h, Turn.result, exec, execSetdac]

theorem ctrl_dacLo (h : s.phase = .dacLo) :
    (ctrlTurn s).result = .next ((s.exchange (dacLow s.dev.dac)).goto .dacCsHi) := by
  simp [ctrlTurn, h, Turn.result, exec, execSetdac]

theorem ctrl_dacCsHi (h : s.phase = .dacCsHi) :
    (ctrlTurn s).result = .next ((s.setLevel .daccs .on).goto .dFetch) := by
  simp [ctrlTurn, h, Turn.result, exec, execSetdac]

theorem ctrl_edgeSet (h : s.phase = .edgeSet) :
    (ctrlTurn s).result = .next ((s.setLevel .edge (Config.edgeLevel s.dev.pol)).goto .dFetch) := by
  simp [ctrlTurn, h, Turn.result, exec, execSetedge]

theorem ctrl_baudInit (h : s.phase = .baudInit) :
    (ctrlTurn s).result = onNext (transportInit (otherSpeed s.dev.speed) s) fun t =>
      .next ((t.setSpeed (otherSpeed s.dev.speed)).goto .dFetch) := by
  simp [ctrlTurn, h, Turn.result, exec, execTogbaud]

/-- Inside a capture the two commands take the same steps (R120, R121). -/
theorem ctrl_capture {r : Result} (h : captureStep s = some r) : (ctrlTurn s).result = r := by
  cases hp : s.phase <;> simp_all only [captureStep, reduceCtorEq] <;>
    cases hf : s.force <;> simp_all [ctrlTurn, Turn.result, exec, execCapture, execFcapture, captureStep]

/-- Inside a transfer the step is SEND's (R140). -/
theorem ctrl_send (h : s.transferring) : (ctrlTurn s).result = execSend s := by
  cases hp : s.phase <;> simp_all [State.transferring, Phase.activity, ctrlTurn, Turn.result, exec]

/-! ## Runs -/

theorem run_succ (n : Nat) (s : State) : run (n + 1) s = onNext (step s) (run n) := rfl

theorem run_add (m n : Nat) (s : State) : run (m + n) s = onNext (run m s) (run n) := by
  induction m generalizing s with
  | zero => simp [run]
  | succ m ih =>
    rw [Nat.succ_add, run_succ, run_succ]
    cases h : step s with
    | next u => simp [ih]
    | fault r => cases r
    | refused r => rfl

/-- The packaged induction: what holds at power-on under every schedule, and every step keeps, holds of
every reachable state. -/
theorem Reachable.of_step {P : State → Prop} (h0 : ∀ moves, P { State.reset with sched := moves })
    (hs : ∀ s t, P s → step s = .next t → P t) {s : State} (h : Reachable s) : P s := by
  obtain ⟨moves, n, hn⟩ := h
  have key : ∀ (n : Nat) (u : State), P u → run n u = .next s → P s := by
    intro n
    induction n with
    | zero => intro u hu hr; cases hr; exact hu
    | succ n ih =>
      intro u hu hr
      rw [run_succ] at hr
      cases hu' : step u with
      | next v => rw [hu'] at hr; exact ih v (hs u v hu hu') hr
      | fault r => cases r
      | refused r => rw [hu'] at hr; cases hr
  exact key n _ (h0 moves) hn

end Sys2Proof.Machine
end

