-- ==== Sys2Proof/Tests/Slice0.lean ====
section
/-! SUPPORT. Tests. Expected values come from the spec: 30_encoding.md (R83, R87, R91) for the words,
95_test_vectors.md (the vector is named at each test) for the steps. After them, one witness per statement
of Certificates/Slice0/Obligations.lean that has hypotheses: a state and operands that meet them together,
clause by clause where it has several. -/

open Sys2Proof Sys2Proof.Machine

namespace Sys2Proof.Tests

/-! ## Helpers -/

/-- The start state `S0` of 95_test_vectors.md: the ready column of R36. -/
def ready : State := { State.reset with phase := .dFetch, lines := readyLines }

/-- `S0` at another phase. -/
def at' (p : Phase) : State := { ready with phase := p }

/-- `S0` at a phase, with bytes waiting. -/
def fed (p : Phase) (rx : List Byte) : State := { at' p with rx := rx }

/-- What a result says of the next state. -/
def after {α : Type} (r : Result) (f : State → α) : Option α :=
  match r with
  | .next s => some (f s)
  | .fault _ => none
  | .refused _ => none

/-- The state `n` steps on. -/
def nth : Nat → State → State
  | 0, s => s
  | n + 1, s =>
    match step s with
    | .next t => nth n t
    | .fault _ => s
    | .refused _ => s

/-! ## WellFormed: each of the four checks refuses -/

theorem test_cmd1_alone_refused : (Item.bare .setmult).wellFormed = false := by decide
theorem test_cmd0_operand_refused : (Item.operand .version 4).wellFormed = false := by decide
theorem test_operand_256_refused : (Item.operand .setdac 256).wellFormed = false := by decide
theorem test_byte_256_refused : (Item.byte 256).wellFormed = false := by decide
theorem test_well_formed_stream :
    ([.bare .send, .operand .setmult 255, .byte 255, .edgeRising, .edgeFalling].all Item.wellFormed) = true := by
  decide

/-! ## Decode: words written out from R83 -/

theorem test_word_version : decode [0b01110110#8] = .ok (.version, []) := by decide
theorem test_word_setmult : decode [0b01110010#8, 0b00001000#8] = .ok (.setmult 8#8, []) := by decide
theorem test_word_setdac : decode [0b01110100#8, 0b10100101#8] = .ok (.setdac 165#8, []) := by decide
theorem test_word_capture : decode [0b01000011#8] = .ok (.capture, []) := by decide
theorem test_word_fcapture : decode [0b01100110#8] = .ok (.fcapture, []) := by decide
theorem test_word_send : decode [0b01110011#8] = .ok (.send, []) := by decide
theorem test_word_setedge : decode [0b01101001#8, 0b01100110#8] = .ok (.setedge 0x66#8, []) := by decide
theorem test_word_togbaud : decode [0b01000010#8] = .ok (.togbaud, []) := by decide
theorem test_word_stop : decode [0b01101110#8] = .ok (.stop, []) := by decide

/-- Upper-case `V` and lower-case `c` have no row (V-D14). -/
theorem test_case_sensitive :
    decode [0x56#8] = .error (.unrecognised 0x56#8) ∧ decode [0x63#8] = .error (.unrecognised 0x63#8) := by decide

/-- `r` at the end waits for its parameter (R162). -/
theorem test_parameter_missing : decode [0x72#8] = .error (.missingParam 0x72#8) := by decide

/-- V-D15: an edge sub-code and then a command, both `r`. -/
theorem test_stream_V_D15 :
    decodeStream [0x69#8, 0x72#8, 0x72#8, 0x04#8] = [.setedge 0x72#8, .setmult 4#8] := by decide

/-- V-C6's stream, as R91 writes it: `CAPTURE SEND VERSION`. -/
theorem test_assemble_V_C6 :
    assemble [.bare .capture, .bare .send, .bare .version] = [0x43#8, 0x73#8, 0x76#8] := by decide

/-- spec/opcode_table.json: match 0x7200, mask 0xFF00. -/
theorem test_table_word : decodeTableWord 16 0x7204 = some (.setmult 4#8) ∧ decodeTableWord 8 0x6E = some .stop ∧
    decodeTableWord 16 0x0472 = none := by decide

theorem test_placed_runs_whole :
    step (State.reset.withFetchWord 8 0x76) =
      exec .version { State.reset with phase := .dFetch, cmd := 0x76#8, trace := [.rxB 0x76#8] } := rfl
theorem test_placed_runs_param :
    step (State.reset.withFetchWord 16 0x74A5) =
      exec (.setdac 0xA5#8)
        { State.reset with phase := .dParam, cmd := 0x74#8, param := 0xA5#8, trace := [.rxB 0xA5#8] } := rfl

/-! ## One step each -/

/-- V-D1, first and last byte. -/
theorem test_version_first : after (exec .version (at' (.ver 0))) (fun t => (t.tx, t.phase)) =
    some ([0x44#8], .ver 1) := by decide
theorem test_version_last : after (exec .version (at' (.ver 15))) (fun t => (t.tx, t.phase)) =
    some ([0x0A#8], .dFetch) := by decide

/-- V-D3, event 4. -/
theorem test_setmult_V_D3 :
    after (exec (.setmult 4#8) { at' (.mul 1) with dev := ⟨.four, 127#8, .rising, .normal⟩ })
      (fun t => (t.trace, t.lines.pad (.sel 0), t.lines.pad (.sel 1))) = some ([.dir (.sel 0) .output], some .off, none) := by
  decide
/-- V-D8: the digit `4` is no multiplier. -/
theorem test_setmult_V_D8 : after (exec (.setmult 0x34#8) (at' .dParam)) (fun t => (t.dev.mult, t.phase)) =
    some (.two, .dFetch) := by decide

/-- V-D10, the first byte sent. -/
theorem test_setdac_V_D10 :
    after (exec (.setdac 0xA5#8) { at' .dacHi with dev := ⟨.two, 0xA5#8, .rising, .normal⟩ })
      (fun t => (t.trace.map fun e => match e with | .spi o _ => o | _ => 0#8, t.phase)) =
      some ([0x3A#8], .dacLo) := by decide
/-- V-D9, the second byte for 0x01. -/
theorem test_setdac_V_D9 :
    after (exec (.setdac 0x01#8) { at' .dacLo with dev := ⟨.two, 0x01#8, .rising, .normal⟩ })
      (fun t => (t.trace.map fun e => match e with | .spi o _ => o | _ => 0#8, t.phase)) =
      some ([0x10#8], .dacCsHi) := by decide

/-- V-C3: the stop byte ends the wait though the fill line reads `OFF`. -/
theorem test_capture_V_C3 :
    after (exec .capture { at' .capPollFill with polled := some 0x6E#8, extFill := some .off })
      (fun t => (t.trace, t.phase)) = some ([.read .fill .off], .capAck) := by decide
/-- V-C6: any other byte does not. -/
theorem test_capture_V_C6 :
    after (exec .capture { at' .capPollFill with polled := some 0x73#8, extFill := some .off }) State.phase =
      some .capPollRx := by decide

/-- V-C2: the force pulse follows the trigger pulse. -/
theorem test_fcapture_V_C2 :
    after (exec .fcapture { at' .capTrigOff with force := true }) (fun t => (t.trace, t.phase)) =
      some ([.level .trig .off], .capForceOn) := by decide

/-- V-X8: a sample is still clocked out at 65534 and none at 65535. -/
theorem test_send_V_X8 :
    after (exec .send { at' .xferPoll with ctr := 65534#16 }) State.phase = some .xferClkOn ∧
    after (exec .send { at' .xferPoll with ctr := 65535#16 }) State.phase = some .xferRdenOff := by decide
/-- V-X5: a sample equal to the stop byte is sent like any other. -/
theorem test_send_V_X5 :
    after (exec .send { at' .xferSend with sample := 0x6E#8 }) (fun t => (t.tx, t.ctr, t.phase)) =
      some ([0x6E#8], 1#16, .xferPoll) := by decide

/-- V-D12 (b) and (d). -/
theorem test_setedge_V_D12b : after (exec (.setedge 0x66#8) (at' .dParam)) (fun t => (t.dev.pol, t.phase)) =
    some (.falling, .edgeSet) := by decide
theorem test_setedge_V_D12d : after (exec (.setedge 0x52#8) (at' .dParam)) (fun t => (t.dev.pol, t.phase)) =
    some (.rising, .dFetch) := by decide

/-- V-D13. -/
theorem test_togbaud_V_D13 : after (exec .togbaud (at' .baudInit)) (fun t => (t.trace, t.dev.speed, t.rate)) =
    some ([.init .fast], .fast, .fast) := by decide

/-- R180's example: the stop byte is dropped and the transfer command behind it stays. -/
theorem test_stop_R180 : after (step (fed .dFetch [0x6E#8, 0x73#8])) (fun t => (t.phase, t.rx)) =
    some (.dFetch, [0x73#8]) := by decide

/-- V-W6 and V-W10: a tri-stated line keeps its latch until it is written, and is never driven low. -/
theorem test_wrapper_V_W6 :
    (Lines.reset.set (.sel 0) ⟨.output, .on⟩).pad (.sel 0) = some .on ∧
    ((Lines.reset.set (.sel 0) ⟨.output, .on⟩).withDir (.sel 0) .input).get (.sel 0) = ⟨.input, .on⟩ ∧
    ((Lines.reset.set (.sel 0) ⟨.output, .on⟩).withDir (.sel 0) .input).pad (.sel 0) = none := by decide
/-- V-W7: an input shows what the outside drives, not its latch. -/
theorem test_wrapper_V_W7 : (State.readLevel { ready with extFill := some .on } .fill).1 = .on := by decide

/-! ## Witnesses: encoding and the dispatcher -/

theorem witness_AssembledStreamDecodes :
    ∀ it ∈ [Item.bare .version, .operand .setmult 255, .operand .setdac 0, .edgeFalling, .bare .stop],
      it.wellFormed = true ∧ ∀ n, it ≠ .byte n := by
  intro it h
  simp only [List.mem_cons, List.not_mem_nil, or_false] at h
  rcases h with rfl | rfl | rfl | rfl | rfl <;> exact ⟨rfl, fun _ => by simp⟩

theorem witness_FirstByteDecidesLength :
    (0x69#8 = (0x72#8 : Byte) ∨ 0x69#8 = (0x74#8 : Byte) ∨ 0x69#8 = (0x69#8 : Byte)) ∧
    0x6E#8 ∈ [0x76#8, 0x43#8, 0x66#8, 0x73#8, 0x42#8, (0x6E#8 : Byte)] ∧
    (0x00#8 ∉ dispatchedBytes ∧ 0x00#8 ≠ (0x6E#8 : Byte)) ∧ (0xFF#8 ∉ dispatchedBytes ∧ 0xFF#8 ≠ (0x6E#8 : Byte)) := by
  decide

theorem witness_StepRunsCommandByte :
    let s := fed .dFetch [0x43#8, 0x6E#8]
    s.ctrlMoves = true ∧ s.phase = .dFetch ∧ s.rx = 0x43#8 :: [0x6E#8] ∧ decode [0x43#8] = .ok (.capture, []) := by
  decide

theorem witness_StepRunsParameterByte :
    let s := { fed .dParam [0xFF#8] with cmd := 0x72#8 }
    s.ctrlMoves = true ∧ s.phase = .dParam ∧ s.rx = 0xFF#8 :: [] ∧
      decode [s.cmd, 0xFF#8] = .ok (.setmult 0xFF#8, []) := by decide

theorem witness_TwoStepsRunTwoByteCommand :
    let s := fed .dFetch [0x74#8, 0x00#8]
    s.sched = [] ∧ s.phase = .dFetch ∧ s.rx = 0x74#8 :: 0x00#8 :: [] ∧
      decode [0x74#8, 0x00#8] = .ok (.setdac 0#8, []) := by decide

theorem witness_StepContinuesCommand :
    (∀ p, (at' p).ctrlMoves = true) ∧ (at' (.ver 0)).phase = .ver 0 ∧ (at' (.ver 15)).phase = .ver 15 ∧
    (at' (.mul 0)).phase = .mul 0 ∧ (at' (.mul 3)).phase = .mul 3 ∧ (at' .dacCsLo).phase = .dacCsLo ∧
    (at' .dacCsHi).phase = .dacCsHi ∧ (at' .edgeSet).phase = .edgeSet ∧ (at' .baudInit).phase = .baudInit ∧
    (at' .capRden).capturing ∧ (at' .capAck).capturing ∧ (at' .xferRdenOn).transferring ∧
    (at' .xferRdenOff).transferring := by
  refine ⟨fun _ => rfl, ?_⟩; decide

theorem witness_ReceiveHeldWhileEmpty :
    ((at' .dFetch).ctrlMoves = true ∧ (at' .dFetch).phase = .dFetch ∧ (at' .dFetch).rx = []) ∧
    ((at' .dParam).ctrlMoves = true ∧ (at' .dParam).phase = .dParam ∧ (at' .dParam).rx = []) := by decide

theorem witness_UndispatchedByteIgnored :
    ∀ b ∈ [0x00#8, 0x6E#8, 0x56#8, 0xFF#8], (fed .dFetch [b]).ctrlMoves = true ∧
      (fed .dFetch [b]).phase = .dFetch ∧ (fed .dFetch [b]).rx = b :: [] ∧ b ∉ dispatchedBytes := by decide

/-! ## Witnesses: the instructions -/

theorem witness_VersionExecutes :
    (∀ k, (at' .dFetch).phase ≠ .ver k) ∧ ((at' (.ver 0)).phase = .ver 0 ∧ (at' (.ver 0)).link.sending = false) ∧
    ((at' (.ver 15)).phase = .ver 15 ∧ (at' (.ver 15)).link.sending = false) := by decide

theorem witness_SetmultExecutes :
    (∀ k, (at' .dParam).phase ≠ .mul k) ∧ (2#8, Mult.two) ∈ [(2#8, Mult.two), (4#8, Mult.four), (8#8, Mult.eight)] ∧
    (8#8, Mult.eight) ∈ [(2#8, Mult.two), (4#8, Mult.four), (8#8, Mult.eight)] ∧
    (0x01#8 : Byte) ∉ [2#8, 4#8, 8#8] ∧ (0xFF#8 : Byte) ∉ [2#8, 4#8, 8#8] ∧
    (at' (.mul 0)).phase = .mul 0 ∧ (at' (.mul 3)).phase = .mul 3 := by decide

theorem witness_SetdacExecutes :
    (at' .dParam).phase ∉ [Phase.dacCsLo, .dacHi, .dacLo, .dacCsHi] ∧ (at' .dacCsLo).phase = .dacCsLo ∧
    (at' .dacHi).phase = .dacHi ∧ (at' .dacLo).phase = .dacLo ∧ (at' .dacCsHi).phase = .dacCsHi := by decide

theorem witness_CapturesExecute :
    ¬ (at' .dFetch).capturing ∧ (∀ p ∈ [Phase.capRden, .capTrigOn, .capTrigOff, .capForceOn, .capForceOff,
      .capDelay, .capPollRx, .capPollFill], (at' p).phase = p) ∧
    ((at' .capPollFill).lines.fill.dir = .input ∧
      State.extFill { at' .capPollFill with extFill := some .on } = some .on) ∧
    (Lines.set (at' .capPollFill).lines .fill ⟨.output, .on⟩).fill.dir = .output ∧
    (at' .capAck).phase = .capAck ∧ (at' .capAck).link.sending = false := by decide

theorem witness_SendExecutes :
    ¬ (at' .dFetch).transferring ∧ (∀ p ∈ [Phase.xferRdenOn, .xferPoll, .xferClkOn, .xferClkOff, .xferRead,
      .xferRdenOff], (at' p).phase = p) ∧
    State.extBus { at' .xferRead with extBus := some 0xA5#8 } = some 0xA5#8 ∧
    (at' .xferSend).phase = .xferSend ∧ (at' .xferSend).link.sending = false := by decide

theorem witness_SetedgeExecutes :
    (at' .dParam).phase ≠ .edgeSet ∧ ((0x71#8 : Byte) ≠ 0x72#8 ∧ (0x71#8 : Byte) ≠ 0x66#8) ∧
    (at' .edgeSet).phase = .edgeSet := by decide

theorem witness_TogbaudExecutes :
    (at' .dFetch).phase ≠ .baudInit ∧ ((at' .baudInit).phase = .baudInit ∧ (at' .baudInit).rx = [] ∧
      (at' .baudInit).link = ⟨false, false⟩ ∧ Speed.fast ≠ (at' .baudInit).dev.speed) := by decide

theorem witness_BusyLinkHoldsSend :
    ∀ p ∈ [Phase.ver 0, .ver 15, .capAck, .xferSend],
      (State.link { at' p with link := ⟨true, false⟩ }).sending = true ∧
      State.phase { at' p with link := ⟨true, false⟩ } = p := by decide

theorem witness_TogbaudOutsideModelUnlessQuiet :
    (at' .baudInit).phase = .baudInit ∧ (fed .baudInit [0x42#8]).rx ≠ [] ∧
    (State.link { at' .baudInit with link := ⟨true, false⟩ }).sending = true ∧
    (State.link { at' .baudInit with link := ⟨false, true⟩ }).receiving = true := by decide

theorem witness_VersionReplies :
    (let s := fed .dFetch [0x76#8]
     s.sched = [] ∧ s.phase = .dFetch ∧ s.rx = 0x76#8 :: [] ∧ s.link.sending = false) ∧
    (let s := { fed .dFetch [0x76#8] with link := ⟨true, false⟩ }
     s.sched = [] ∧ s.phase = .dFetch ∧ s.rx = 0x76#8 :: [] ∧ s.link.sending = true) := by decide

theorem witness_SetmultDrivesSelectLines :
    ∀ p ∈ [2#8, 4#8, 8#8, 0x00#8, 0xFF#8], (fed .dFetch [0x72#8, p]).sched = [] ∧
      (fed .dFetch [0x72#8, p]).phase = .dFetch ∧ (fed .dFetch [0x72#8, p]).rx = 0x72#8 :: p :: [] := by decide

theorem witness_SetdacSendsTwoBytes :
    ∀ p ∈ [0x00#8, 0xFF#8], (fed .dFetch [0x74#8, p]).sched = [] ∧
      (fed .dFetch [0x74#8, p]).phase = .dFetch ∧ (fed .dFetch [0x74#8, p]).rx = 0x74#8 :: p :: [] := by decide

theorem witness_SetedgeWritesEdgeLine :
    ∀ p ∈ [0x72#8, 0x66#8, 0x52#8], (fed .dFetch [0x69#8, p]).sched = [] ∧
      (fed .dFetch [0x69#8, p]).phase = .dFetch ∧ (fed .dFetch [0x69#8, p]).rx = 0x69#8 :: p :: [] := by decide

theorem witness_TwoTogglesCancel :
    (∀ n ∈ [1, 2], let s := { ready with sched := (List.replicate n [Move.hostSend 0x42#8, .ctrl, .ctrl]).flatten }
      s.phase = .dFetch ∧ s.rx = [] ∧ s.link = ⟨false, false⟩ ∧ s.rate = s.dev.speed) ∧
    Instr.setdac 0#8 ≠ .togbaud ∧ Instr.stop ≠ .togbaud :=
  ⟨fun _ _ => ⟨rfl, rfl, rfl, rfl⟩, by decide, by decide⟩

/-! ## Witnesses: the capture sequencer and the transfer engine -/

/-- A run whose states all satisfy `P` is a path. -/
theorem path_nth {P : State → Prop} (s : State) (n : Nat) (hc : ∀ k ≤ n, P (nth k s))
    (hs : ∀ k < n, step (nth k s) = .next (nth (k + 1) s)) : Path P s (nth n s) := by
  induction n with
  | zero => exact .here (hc 0 (Nat.le_refl _))
  | succ n ih =>
    exact .more _ _ (ih (fun k hk => hc k (by omega)) (fun k hk => hs k (by omega)))
      (hs n (by omega)) (hc (n + 1) (by omega))

/-- A capture the hardware ends at once: six steps, or eight with the force pulse. -/
def armed (force : Bool) : State := { at' .capRden with force := force, extFill := some .on }

theorem witness_CaptureTraceForm :
    (armed false).phase = .capRden ∧ Path State.capturing (armed false) (nth 6 (armed false)) ∧
      step (nth 6 (armed false)) = .next (nth 7 (armed false)) ∧ (nth 7 (armed false)).phase = .dFetch := by
  refine ⟨rfl, path_nth _ _ ?_ ?_, rfl, rfl⟩ <;> intro k hk <;> interval_cases k <;> rfl

theorem witness_CapturePulseCount :
    (armed true).phase = .capRden ∧ (nth 8 (armed true)).phase = .capAck ∧
      Path State.capturing (armed true) (nth 8 (armed true)) := by
  refine ⟨rfl, rfl, path_nth _ _ ?_ ?_⟩ <;> intro k hk <;> interval_cases k <;> rfl

theorem witness_AckSameForStopAndFill :
    (let s := fed .capPollRx [0x6E#8]
     s.sched = [] ∧ s.phase = .capPollRx ∧ s.lines.fill.dir = .input ∧ s.link.sending = false ∧
       s.rx.head? = some 0x6E#8) ∧
    (let s := { at' .capPollRx with extFill := some .on }
     s.sched = [] ∧ s.phase = .capPollRx ∧ s.lines.fill.dir = .input ∧ s.link.sending = false ∧
       s.extFill = some .on) := by decide

/-- The first clause: a poll that takes a byte which is no stop byte, with nothing known of the fill line but
that it then reads as `OFF`; here the line is driven. -/
theorem witness_CaptureWaitHasNoTimeout_run :
    let s := { fed .capPollRx [0x6D#8] with extFill := some .off }
    s.phase = .capPollRx ∧ run 2 s = .next (nth 2 s) ∧
      (nth 2 s).trace = s.trace ++ [.rxT (some 0x6D#8), .read .fill .off] ∧
      ∀ e ∈ [Event.rxT (some 0x6D#8), .read .fill .off], e ≠ .rxT (some 0x6E#8) ∧ e ≠ .read .fill .on :=
  ⟨rfl, rfl, rfl, by decide⟩

theorem witness_CaptureWaitHasNoTimeout :
    let s := { fed .capPollRx [0x73#8] with
               extFill := some .off, sched := [.ctrl, .hostSend 0x6D#8, .hostTake, .driveFill (some .off)] }
    s.phase = .capPollRx ∧ s.lines.fill.dir = .input ∧ s.extFill = some .off ∧ 0x6E#8 ∉ s.rx ∧
      ∀ m ∈ s.sched, m ≠ .hostSend 0x6E#8 ∧ ∀ v, m = .driveFill v → v = some .off := by
  refine ⟨rfl, rfl, rfl, by decide, ?_⟩
  intro m h
  simp only [List.mem_cons, List.not_mem_nil, or_false] at h
  rcases h with rfl | rfl | rfl | rfl <;> simp

/-- V-X4's stream behind the command: a swallowed byte, one sample, then the stop byte. -/
def session : State := { fed .xferRdenOn [0x76#8, 0x6E#8] with extBus := some 0x55#8 }

theorem witness_TransferTraceForm :
    session.phase = .xferRdenOn ∧ Path State.transferring session (nth 7 session) ∧
      step (nth 7 session) = .next (nth 8 session) ∧ (nth 8 session).phase = .dFetch := by
  refine ⟨rfl, path_nth _ _ ?_ ?_, rfl, rfl⟩ <;> intro k hk <;> interval_cases k <;> rfl

theorem witness_PulsesPacedByCounter :
    session.phase = .xferRdenOn ∧ (nth 6 session).phase ≠ .xferRdenOn ∧ (nth 6 session).phase = .xferPoll ∧
      Path State.transferring session (nth 6 session) := by
  refine ⟨rfl, by decide, rfl, path_nth _ _ ?_ ?_⟩ <;> intro k hk <;> interval_cases k <;> rfl

theorem witness_FullSessionSends65535 :
    let s := fed .xferRdenOn [0x76#8]
    s.sched = [] ∧ s.phase = .xferRdenOn ∧ 0x6E#8 ∉ s.rx ∧ s.link.sending = false := by decide

theorem witness_EverySessionEnds :
    ∀ p ∈ [Phase.xferRdenOn, .xferPoll, .xferSend, .xferRdenOff], (at' p).transferring := by decide

theorem witness_StopEndsTransferAtBoundary :
    let s := fed .xferPoll [0x6E#8, 0x76#8]
    s.sched = [] ∧ s.phase = .xferPoll ∧ s.rx = 0x6E#8 :: [0x76#8] := by decide

/-! ## Witnesses: the whole machine -/

/-- `S0` and two states around it satisfy the invariant. -/
theorem inv_ready (bytes : List Byte) (moves : List Move) : Inv { ready with rx := bytes, sched := moves } := by
  constructor <;> first | rfl | (intros; first | rfl | simp_all [ready, State.booting])
  all_goals first | exact ⟨rfl, rfl⟩ | (rename_i i; revert i; decide)

theorem inv_sending (c : Ctr) (hc : c.toNat < 65535) :
    Inv { at' .xferSend with ctr := c, lines := readyLines.withLatch .rden .on } := by
  constructor <;> first | rfl | (intros; first | rfl | simp_all [at', ready, State.booting])
  all_goals first | exact hc | exact ⟨rfl, rfl⟩ | (rename_i i; revert i; decide)

theorem inv_toggling (bytes : List Byte) : Inv { ready with phase := .baudInit, rx := bytes } := by
  constructor <;> first | rfl | (intros; first | rfl | simp_all [ready, State.booting])
  all_goals first | exact ⟨rfl, rfl⟩ | (rename_i i; revert i; decide)

theorem inv_lastBoot (link : Link) (moves : List Move) :
    Inv { ready with phase := .boot 17, link := link, sched := moves } := by
  constructor <;> first | rfl | (intros; first | rfl | simp_all [ready, State.booting])
  all_goals first | exact ⟨rfl, rfl⟩ | (rename_i i; revert i; decide)

theorem witness_CounterNeverWraps :
    let s : State := { at' .xferSend with ctr := 65534#16, lines := readyLines.withLatch .rden .on }
    Inv s ∧ s.phase = .xferSend ∧ s.link.sending = false :=
  ⟨inv_sending _ (by decide), rfl, rfl⟩

theorem witness_EveryStepKeepsInv :
    Inv (fed .dFetch [0x66#8]) ∧ step (fed .dFetch [0x66#8]) = .next (nth 1 (fed .dFetch [0x66#8])) :=
  ⟨inv_ready _ [], rfl⟩

theorem witness_ReadyInvariantsHold :
    Reachable (nth 18 State.reset) ∧ (nth 18 State.reset).phase = .dFetch := ⟨⟨[], 18, rfl⟩, rfl⟩

/-- A run under a schedule: start-up, then `SEND` arrives, then four steps. -/
def scheduled : State :=
  { State.reset with sched := List.replicate 18 Move.ctrl ++ [.hostSend 0x73#8] }

theorem witness_ReadyInvariantsHold_bound :
    Reachable (nth 22 scheduled) ∧ (nth 22 scheduled).phase = .xferClkOn := ⟨⟨scheduled.sched, 22, rfl⟩, rfl⟩

theorem witness_TraceReplaysLines :
    State.reset.lines = replay State.reset.trace ∧ step State.reset = .next (nth 1 State.reset) := ⟨rfl, rfl⟩

theorem witness_StepAppendsListedEvent :
    ((at' .capDelay).ctrlMoves = true ∧ step (at' .capDelay) = .next (nth 1 (at' .capDelay))) ∧
    ((at' .dFetch).ctrlMoves = true ∧ step (at' .dFetch) = .next (nth 1 (at' .dFetch))) ∧
    (let s := { at' .capAck with link := ⟨true, false⟩ }
     s.ctrlMoves = true ∧ step s = .next (nth 1 s)) := ⟨⟨rfl, rfl⟩, ⟨rfl, rfl⟩, rfl, rfl⟩

theorem witness_OnlyThreeStepsSend :
    ∀ p ∈ [Phase.ver 0, .ver 15, .capAck, .xferSend, .dFetch],
      (at' p).ctrlMoves = true ∧ step (at' p) = .next (nth 1 (at' p)) := by
  intro p hp
  simp only [List.mem_cons, List.not_mem_nil, or_false] at hp
  rcases hp with rfl | rfl | rfl | rfl | rfl <;> exact ⟨rfl, rfl⟩

theorem witness_ActivityChangesOnlyAtItsEnds :
    step (fed .dFetch [0x73#8]) = .next (nth 1 (fed .dFetch [0x73#8])) ∧
    step (at' .capAck) = .next (nth 1 (at' .capAck)) ∧
    step (at' .xferRdenOff) = .next (nth 1 (at' .xferRdenOff)) := ⟨rfl, rfl, rfl⟩

theorem witness_OneWriterPerDeviceRegister :
    (∃ t, exec (.setmult 8#8) (at' .dParam) = .next t ∧ t.dev.mult ≠ (at' .dParam).dev.mult) ∧
    (∃ t, exec (.setdac 255#8) (at' .dParam) = .next t ∧ t.dev.dac ≠ (at' .dParam).dev.dac) ∧
    (∃ t, exec (.setedge 0x66#8) (at' .dParam) = .next t ∧ t.dev.pol ≠ (at' .dParam).dev.pol) ∧
    (∃ t, exec .togbaud (at' .baudInit) = .next t ∧ t.dev.speed ≠ (at' .baudInit).dev.speed) :=
  ⟨⟨_, rfl, by decide⟩, ⟨_, rfl, by decide⟩, ⟨_, rfl, by decide⟩, ⟨_, rfl, by decide⟩⟩

theorem witness_RefusedOnlyOutsideModel_toggle :
    Inv (fed .baudInit [0x42#8]) ∧ step (fed .baudInit [0x42#8]) = .refused .linkNotQuiet :=
  ⟨inv_toggling _, rfl⟩
theorem witness_RefusedOnlyOutsideModel_boot :
    let s : State := { ready with phase := .boot 17, link := ⟨false, true⟩, sched := [] }
    Inv s ∧ step s = .refused .linkNotQuiet := ⟨inv_lastBoot _ _, rfl⟩
theorem witness_RefusedOnlyOutsideModel_host :
    let s : State := { ready with phase := .boot 17, link := ⟨false, false⟩, sched := [.hostSend 0x76#8] }
    Inv s ∧ step s = .refused .hostBeforeReady := ⟨inv_lastBoot _ _, rfl⟩
theorem witness_RefusedOnlyOutsideModel_take :
    let s : State := { ready with phase := .boot 17, link := ⟨false, false⟩, sched := [.hostTake] }
    Inv s ∧ step s = .refused .hostBeforeReady := ⟨inv_lastBoot _ _, rfl⟩

theorem witness_HostMoves :
    (let s := { ready with sched := [.hostSend 0x76#8] }
     s.sched.head? = some (.hostSend 0x76#8) ∧ s.booting = false) ∧
    (let s := { ready with sched := [.hostTake], tx := [0x43#8] }
     s.sched.head? = some .hostTake ∧ s.booting = false) := by decide

theorem witness_OtherAgentsTouchOnlyTheirOwn :
    let s := { ready with sched := [.driveFill (some .on)] }
    s.ctrlMoves = false ∧ step s = .next (nth 1 s) := ⟨rfl, rfl⟩

theorem witness_SelectPadsShowOldOrNew :
    ∀ n ≤ 4, let s := { at' (.mul 0) with dev := ⟨.eight, 127#8, .rising, .normal⟩ }
      s.sched = [] ∧ s.phase = .mul 0 ∧ (∀ i, s.lines.get (.sel i) = selectCode .two) ∧
        n ≤ 4 ∧ run n s = .next (nth n s) := by
  intro n hn; interval_cases n <;> exact ⟨rfl, rfl, by decide, by decide, rfl⟩

theorem witness_CommandsReturnUnconditionally :
    (∃ k, (at' (.ver 0)).phase = .ver k) ∧ (at' .xferRdenOn).transferring ∧ (∃ k, (at' (.mul 3)).phase = .mul k) ∧
    (at' .capAck).phase ∈ [Phase.dacCsLo, .dacHi, .dacLo, .dacCsHi, .edgeSet, .capAck] ∧
    (at' .baudInit).phase = .baudInit := ⟨⟨0, rfl⟩, rfl, ⟨3, rfl⟩, by decide, rfl⟩

theorem witness_ParameterCommandsReturn :
    (let s := { fed .dParam [0x00#8] with cmd := 0x72#8 }
     s.phase = .dParam ∧ head s.cmd = .wantsParam ∧ s.rx ≠ []) ∧
    (let s := { at' .dParam with cmd := 0x69#8, sched := [.ctrl, .hostSend 0xFF#8] }
     s.phase = .dParam ∧ head s.cmd = .wantsParam ∧ Move.hostSend 0xFF#8 ∈ s.sched) := by decide

theorem witness_CapturesReturn :
    ((fed .capRden [0x6D#8, 0x6E#8]).capturing ∧ 0x6E#8 ∈ (fed .capRden [0x6D#8, 0x6E#8]).rx) ∧
    (let s := { at' .capPollFill with sched := [.ctrl, .hostSend 0x6E#8] }
     s.capturing ∧ Move.hostSend 0x6E#8 ∈ s.sched) ∧
    (let s := { at' .capAck with sched := [.driveFill (some .off), .ctrl, .driveFill (some .on)] }
     s.capturing ∧ s.lines.fill.dir = .input ∧ s.fillInTheEnd = some .on) := by decide

theorem witness_ReadsReturnTheOutside :
    (ready.lines.get .fill).dir = .input ∧ (ready.lines.get .trig).dir = .output ∧
    State.extFill { ready with extFill := some .on } = some .on ∧
    State.extBus { ready with extBus := some 0x6E#8 } = some 0x6E#8 := by decide

end Sys2Proof.Tests
end

