-- ==== Sys2Proof/Proofs/Scope.lean ====
section
/-! SUPPORT. Proofs of the statements on the scope of the model (00_scope.md): what one step of `CTRL` appends to the
trace, what a step of another agent leaves alone, and what is known of the open parameters. -/

namespace Sys2Proof.Machine

section

variable {s t : State}

/-! ## Where a command begins -/

/-- The row of R160 for a command: what is written, and the phase it begins at, or `D_FETCH` for the commands that
do nothing. -/
def State.begun (s : State) : Instr → State
  | .version => s.goto (.ver 0)
  | .setmult p =>
    match multOfByte p with
    | some m => (s.setMult m).goto (.mul 0)
    | none => s.goto .dFetch
  | .setdac p => (s.setDac p).goto .dacCsLo
  | .capture => (s.setForce false).goto .capRden
  | .fcapture => (s.setForce true).goto .capRden
  | .send => s.goto .xferRdenOn
  | .setedge p =>
    match polOfByte p with
    | some q => (s.setPol q).goto .edgeSet
    | none => s.goto .dFetch
  | .togbaud => s.goto .baudInit
  | .stop => s.goto .dFetch

/-- At the two phases of the dispatcher every command begins, and none is refused (R160). -/
theorem exec_begins (h : s.phase = .dFetch ∨ s.phase = .dParam) (i : Instr) :
    exec i s = .next (s.begun i) := by
  have hcap : captureStep s = none := by rcases h with h | h <;> simp [captureStep, h]
  cases i with
  | version => rcases h with h | h <;> simp [exec, execVersion, State.begun, h]
  | setmult p =>
    cases ho : multOfByte p <;> rcases h with h | h <;> simp only [exec, execSetmult, State.begun, h, ho]
  | setdac p => rcases h with h | h <;> simp [exec, execSetdac, State.begun, h]
  | capture => simp [exec, execCapture, State.begun, hcap]
  | fcapture => simp [exec, execFcapture, State.begun, hcap]
  | send => rcases h with h | h <;> simp [exec, execSend, State.begun, h]
  | setedge p =>
    cases ho : polOfByte p <;> rcases h with h | h <;> simp only [exec, execSetedge, State.begun, h, ho]
  | togbaud => rcases h with h | h <;> simp [exec, execTogbaud, State.begun, h]
  | stop => rfl

@[simp] theorem State.begun_trace (s : State) (i : Instr) : (s.begun i).trace = s.trace := by
  cases i with
  | setmult p => simp only [State.begun]; split <;> rfl
  | setedge p => simp only [State.begun]; split <;> rfl
  | _ => rfl

/-- A command begins without an event of its own: the one event of that step is the reception (R161, R162). -/
theorem exec_begins_trace {i : Instr} (h : exec i s = .next t) (hp : s.phase = .dFetch ∨ s.phase = .dParam) :
    t.trace = s.trace := by
  rw [exec_begins hp] at h
  cases h
  exact s.begun_trace i

/-! ## The bytes and events that the table of R21 writes out -/

/-- The first byte of the DAC word: the command's high nibble over the value's (R53a, R171). -/
theorem dacHigh_eq (v : Byte) : dacHigh v = 0x30#8 ||| v >>> 4 := by
  have hcmd : (Params.dacCmd >>> 8).setWidth 8 = 0x30#8 := by decide
  have hvalue : ((v.setWidth 16 <<< 4) >>> 8).setWidth 8 = v >>> 4 := by
    ext i hi
    have hshift : 8 + i - 4 = 4 + i := by omega
    simp [hshift, show 8 + i < 16 by omega, show 4 ≤ 8 + i by omega]
  rw [dacHigh, dacWord, BitVec.ushiftRight_or_distrib, BitVec.setWidth_or, hcmd, hvalue]

/-- The second byte of the DAC word: the value's low nibble, then zeros (R53a, R171). -/
theorem dacLow_eq (v : Byte) : dacLow v = v <<< 4 := by
  ext i hi
  simp [dacLow, dacWord, Params.dacCmd]

theorem otherSpeed_ne (v : Speed) : otherSpeed v ≠ v := by cases v <;> decide

/-- The line writes of the start-up list append the events of its table (R212). -/
theorem startUpTrace_of_bootWrite {k : Nat} {w : LineWrite} (h : bootWrites[k]? = some w) :
    startUpTrace[k]? = some w.event := by
  have hmap : (startUpTrace.take 16)[k]? = some w.event := by simp [← bootWrites_events, h]
  rw [List.getElem?_take] at hmap
  split at hmap
  · exact hmap
  · cases hmap

/-! ## One turn of `CTRL` -/

/-- What one turn of `CTRL` comes to, the schedule aside: held by an empty `rx` (R57) or by a busy link (R56), or one
more event, that of its phase (R21). -/
inductive HeldOrAppends (s t : State) : Prop where
  | noByte (hrx : s.rx = []) (hphase : s.phase = .dFetch ∨ s.phase = .dParam) (ht : t = s)
  | busy (hlink : s.link.sending = true) (hphase : s.phase.sends = true) (ht : t = s.finishSending)
  | event (e : Event) (htrace : t.trace = s.trace ++ [e]) (he : s.appends e)

/-- A `Send` is held by a busy link, or appends the byte's event. -/
theorem sendThen_heldOrAppends {b : Byte} {rest : State → State} (hphase : s.phase.sends = true)
    (he : s.appends (.tx b)) (hrest : (rest (s.send b)).trace = (s.send b).trace)
    (h : sendThen b s rest = .next t) : HeldOrAppends s t := by
  rcases sendThen_cases h with ⟨hbusy, rfl⟩ | ⟨-, rfl⟩
  · exact .busy hbusy hphase rfl
  · exact .event (.tx b) (by rw [hrest, State.send_trace]) he

/-- `TransportInit` answers only a state with its event appended. -/
theorem transportInit_then_trace {v : Speed} {f : State → State}
    (hf : (f (s.initRate v)).trace = (s.initRate v).trace)
    (h : onNext (transportInit v s) (fun u => .next (f u)) = .next t) : t.trace = s.trace ++ [.init v] := by
  rcases transportInit_cases v s with ⟨-, hi⟩ | ⟨-, hi⟩
  · rw [hi] at h
    cases h
    rw [hf, State.initRate_trace]
  · rw [hi] at h
    cases h

/-- The start-up list, step by step (R212). -/
theorem boot_heldOrAppends {k : Fin 18} (hp : s.phase = .boot k) (h : bootStep k s = .next t) :
    HeldOrAppends s t := by
  have happ {e : Event} (he : startUpTrace[k.val]? = some e) : s.appends e := by
    simpa [State.appends, hp] using he
  unfold bootStep at h
  split at h
  · next w hw =>
    cases h
    exact .event w.event (by simp [perform_eq]) (happ (startUpTrace_of_bootWrite hw))
  · next hnone =>
    have hlen : bootWrites.length = 16 := rfl
    have hk : 16 ≤ k.val := hlen ▸ List.getElem?_eq_none_iff.mp hnone
    rw [hlen] at h
    split at h
    · next h16 =>
      cases h
      exact .event .refFreq rfl (happ (by rw [h16]; rfl))
    · next h16 =>
      have h17 : k.val = 17 := by omega
      exact .event (.init .normal) (transportInit_then_trace rfl h) (happ (by rw [h17]; rfl))

/-- `D_FETCH`: held, or the reception of the command byte (R161). -/
theorem fetch_heldOrAppends (hp : s.phase = .dFetch) (h : (ctrlTurn s).result = .next t) :
    HeldOrAppends s t := by
  cases hrx : s.rx with
  | nil =>
    rw [ctrl_fetch_empty hp hrx] at h
    cases h
    exact .noByte hrx (.inl hp) rfl
  | cons b rest =>
    have htrace : t.trace = s.trace ++ [.rxB b] := by
      rw [ctrl_fetch hp hrx] at h
      split at h
      · exact exec_begins_trace h (.inl hp)
      · cases h; rfl
      · cases h; rfl
    exact .event (.rxB b) htrace (by simp [State.appends, hp, hrx])

/-- `D_PARAM`: held, or the reception of the parameter byte (R162). -/
theorem param_heldOrAppends (hp : s.phase = .dParam) (h : (ctrlTurn s).result = .next t) :
    HeldOrAppends s t := by
  cases hrx : s.rx with
  | nil =>
    rw [ctrl_param_empty hp hrx] at h
    cases h
    exact .noByte hrx (.inr hp) rfl
  | cons p rest =>
    have htrace : t.trace = s.trace ++ [.rxB p] := by
      rw [ctrl_param hp hrx] at h
      split at h
      · exact exec_begins_trace h (.inr hp)
      · cases h
    exact .event (.rxB p) htrace (by simp [State.appends, hp, hrx])

/-- Inside a capture, `CTRL`'s turn is the sequencer's step. -/
theorem captureStep_of_capturing (h : s.capturing) : captureStep s = some (ctrlTurn s).result := by
  obtain ⟨r, hr⟩ : ∃ r, captureStep s = some r := by
    cases hp : s.phase <;> simp_all [State.capturing, Phase.activity, captureStep]
  rw [hr, ctrl_capture hr]

/-- The phases of a capture (R121 to R129). -/
theorem capture_heldOrAppends (hc : s.capturing) (h : (ctrlTurn s).result = .next t) : HeldOrAppends s t := by
  have hstep : captureStep s = some (.next t) := h ▸ captureStep_of_capturing hc
  cases hp : s.phase <;> simp only [captureStep, hp, Option.some.injEq, reduceCtorEq] at hstep
  case capAck =>
    exact sendThen_heldOrAppends (by simp [hp, Phase.sends]) (by simp [State.appends, hp]) rfl hstep
  all_goals
    cases hstep
    refine .event _ rfl ?_
    simp [State.appends, hp]

/-- The phases of a transfer (R141 to R148). -/
theorem transfer_heldOrAppends (hx : s.transferring) (h : (ctrlTurn s).result = .next t) : HeldOrAppends s t := by
  rw [ctrl_send hx] at h
  cases hp : s.phase <;> simp only [State.transferring, Phase.activity, hp, reduceCtorEq] at hx <;>
    simp only [execSend, hp] at h
  case xferSend =>
    exact sendThen_heldOrAppends (by simp [hp, Phase.sends]) (by simp [State.appends, hp]) rfl h
  all_goals
    cases h
    refine .event _ rfl ?_
    simp [State.appends, hp]

/-- R14, R21, R109: every turn of `CTRL` that answers a next state is held or appends the one event of its phase. -/
theorem ctrlTurn_heldOrAppends (h : (ctrlTurn s).result = .next t) : HeldOrAppends s t := by
  cases hp : s.phase with
  | boot k => exact boot_heldOrAppends hp (ctrl_boot hp ▸ h)
  | dFetch => exact fetch_heldOrAppends hp h
  | dParam => exact param_heldOrAppends hp h
  | ver k =>
    exact sendThen_heldOrAppends (by simp [hp, Phase.sends]) (by simp only [State.appends, hp]; rfl) rfl
      (ctrl_ver hp ▸ h)
  | mul k =>
    cases (ctrl_mul hp).symm.trans h
    exact .event (mulEvent s.dev.mult k) (by simp [perform_eq, mulWrite_event]) (by simp [State.appends, hp])
  | dacCsLo =>
    cases (ctrl_dacCsLo hp).symm.trans h
    exact .event _ rfl (by simp [State.appends, hp])
  | dacHi =>
    cases (ctrl_dacHi hp).symm.trans h
    exact .event _ rfl (by simp [State.appends, hp, dacHigh_eq])
  | dacLo =>
    cases (ctrl_dacLo hp).symm.trans h
    exact .event _ rfl (by simp [State.appends, hp, dacLow_eq])
  | dacCsHi =>
    cases (ctrl_dacCsHi hp).symm.trans h
    exact .event _ rfl (by simp [State.appends, hp])
  | edgeSet =>
    cases (ctrl_edgeSet hp).symm.trans h
    exact .event _ rfl (by simp [State.appends, hp])
  | baudInit =>
    exact .event (.init (otherSpeed s.dev.speed)) (transportInit_then_trace rfl ((ctrl_baudInit hp).symm.trans h))
      (by simp [State.appends, hp, otherSpeed_ne])
  | capRden | capTrigOn | capTrigOff | capForceOn | capForceOff | capDelay | capPollRx | capPollFill | capAck =>
    exact capture_heldOrAppends (by simp [State.capturing, Phase.activity, hp]) h
  | xferRdenOn | xferPoll | xferClkOn | xferClkOff | xferRead | xferSend | xferRdenOff =>
    exact transfer_heldOrAppends (by simp [State.transferring, Phase.activity, hp]) h

end

/-- Settles O43: taking the turn off the schedule changes no phase, register, byte or event, so the turn's outcome is
the step's. -/
theorem stepAppendsListedEvent : Obligations.StepAppendsListedEvent := by
  intro s t hctrl hstep
  cases ctrlTurn_heldOrAppends ((step_ctrl hctrl).symm.trans hstep) with
  | noByte hrx hphase ht => exact .inl ⟨hrx, hphase, ht⟩
  | busy hlink hphase ht => exact .inr (.inl ⟨hlink, hphase, ht⟩)
  | event e htrace he => exact .inr (.inr ⟨e, htrace, he⟩)

/-- Settles O49: a step that is not `CTRL`'s is another agent's move, whose frame is `envMove_frame`. -/
theorem otherAgentsTouchOnlyTheirOwn : Obligations.OtherAgentsTouchOnlyTheirOwn := by
  intro s t hctrl hstep
  rcases step_cases s with ⟨hctrl', -⟩ | ⟨m, -, -, hmove⟩
  · simp [hctrl] at hctrl'
  · rw [hstep] at hmove
    exact (envMove_frame hmove).1

end Sys2Proof.Machine

namespace Sys2Proof.Config

/-! ## The open parameters -/

theorem otherLevel_ne (v : Level) : otherLevel v ≠ v := by cases v <;> decide

/-- R59: the two baud settings are distinct, whatever the open figures are. -/
theorem baudFast_ne_baudNormal : baudFast ≠ baudNormal := by
  unfold baudFast
  split
  · exact Nat.succ_ne_self baudNormal
  · next h => exact h

/-- Settles O58: the level for `FALLING` is the other one, and `BAUD_FAST` is made to differ from `BAUD_NORMAL`. -/
theorem openParametersConstrained : Obligations.OpenParametersConstrained :=
  ⟨(otherLevel_ne edgeRising).symm, baudFast_ne_baudNormal.symm⟩

end Sys2Proof.Config
end

