-- ==== Sys2Proof/Proofs/State.lean ====
section
/-! SUPPORT. Proofs of the statements on the state (10_state.md): the steps of `CTRL` as a relation, said once, and
what follows from it for the invariant of every phase, the line registers and the activity; what an instruction does
to the device registers; and which command a phase belongs to. -/

namespace Sys2Proof.Machine

section

variable {s t : State}

/-! ## The step relation of `CTRL` -/

/-- The phases whose one primitive is a `SetLevel` of a fixed line (R21): the line, the level, the phase after. The
first write of a transfer, which clears `ctr` as well, is `CtrlStep.rdenOn`. -/
def State.levelWrite (s : State) : Option (Line × Level × Phase) :=
  match s.phase with
  | .dacCsLo => some (.daccs, .off, .dacHi)
  | .dacCsHi => some (.daccs, .on, .dFetch)
  | .edgeSet => some (.edge, Config.edgeLevel s.dev.pol, .dFetch)
  | .capRden => some (.rden, .off, .capTrigOn)
  | .capTrigOn => some (.trig, .on, .capTrigOff)
  | .capTrigOff => some (.trig, .off, if s.force then .capForceOn else .capDelay)
  | .capForceOn => some (.force, .on, .capForceOff)
  | .capForceOff => some (.force, .off, .capDelay)
  | .xferClkOn => some (.sclk, .on, .xferClkOff)
  | .xferClkOff => some (.sclk, .off, .xferRead)
  | .xferRdenOff => some (.rden, .off, .dFetch)
  | _ => none

/-- The state after a blocking receive of `b` that leaves `rest`, with the two dispatcher registers as the receive
phase writes them (R161, R162). -/
def State.received (s : State) (b : Byte) (rest : List Byte) (c p : Byte) : State :=
  { s with rx := rest, trace := s.trace ++ [.rxB b], cmd := c, param := p }

/-- Every next state that one turn of `CTRL` can answer, the schedule aside: one constructor per kind of step. -/
inductive CtrlStep (s : State) : State → Prop where
  | held (hp : s.phase = .dFetch ∨ s.phase = .dParam) (hrx : s.rx = []) : CtrlStep s s
  | busy (hp : s.phase.sends = true) (hlink : s.link.sending = true) : CtrlStep s s.finishSending
  | bootWrite (k : Fin bootSteps) (w : LineWrite) (hp : s.phase = .boot k) (hw : bootWrites[k.val]? = some w) :
      CtrlStep s ((s.perform w).goto (afterBoot k))
  | bootRefFreq (hp : s.phase = .boot 16) : CtrlStep s (s.configRefFreq.goto (.boot 17))
  | bootInit (hp : s.phase = .boot 17) (hquiet : s.linkQuiet = true) : CtrlStep s ((s.initRate .normal).goto .dFetch)
  | wantsParam (b : Byte) (rest : List Byte) (hp : s.phase = .dFetch) (hrx : s.rx = b :: rest)
      (hb : head b = .wantsParam) : CtrlStep s ((s.received b rest b s.param).goto .dParam)
  | ignored (b : Byte) (rest : List Byte) (hp : s.phase = .dFetch) (hrx : s.rx = b :: rest)
      (hb : head b = .unrecognised) : CtrlStep s ((s.received b rest b s.param).goto .dFetch)
  | command (i : Instr) (b : Byte) (rest : List Byte) (hp : s.phase = .dFetch) (hrx : s.rx = b :: rest)
      (hb : head b = .whole i) : CtrlStep s ((s.received b rest b s.param).begun i)
  | parameter (i : Instr) (p : Byte) (rest : List Byte) (hp : s.phase = .dParam) (hrx : s.rx = p :: rest)
      (hi : withParam s.cmd p = some i) : CtrlStep s ((s.received p rest s.cmd p).begun i)
  | version (k : Fin 16) (hp : s.phase = .ver k) (hidle : s.link.sending = false) :
      CtrlStep s ((s.send (Params.versionByte k)).goto (afterVer k))
  | select (k : Fin mulSteps) (hp : s.phase = .mul k) :
      CtrlStep s ((s.perform (mulWrite s.dev.mult k)).goto (afterMul k))
  | level (l : Line) (v : Level) (q : Phase) (hw : s.levelWrite = some (l, v, q)) :
      CtrlStep s ((s.setLevel l v).goto q)
  | dacHi (hp : s.phase = .dacHi) : CtrlStep s ((s.exchange (dacHigh s.dev.dac)).goto .dacLo)
  | dacLo (hp : s.phase = .dacLo) : CtrlStep s ((s.exchange (dacLow s.dev.dac)).goto .dacCsHi)
  | toggle (hp : s.phase = .baudInit) (hquiet : s.linkQuiet = true) :
      CtrlStep s (((s.initRate (otherSpeed s.dev.speed)).setSpeed (otherSpeed s.dev.speed)).goto .dFetch)
  | delay (hp : s.phase = .capDelay) : CtrlStep s ((s.delayUs Params.settleUs).goto .capPollRx)
  | pollRx (hp : s.phase = .capPollRx) : CtrlStep s (capPollRx s)
  | pollFill (hp : s.phase = .capPollFill) : CtrlStep s (capPollFill s)
  | ack (hp : s.phase = .capAck) (hidle : s.link.sending = false) :
      CtrlStep s ((s.send Params.ackByte).goto .dFetch)
  | rdenOn (hp : s.phase = .xferRdenOn) : CtrlStep s (((s.setLevel .rden .on).setCtr 0#_).goto .xferPoll)
  | transferPoll (hp : s.phase = .xferPoll) : CtrlStep s (xferPoll s)
  | transferRead (hp : s.phase = .xferRead) : CtrlStep s (xferRead s)
  | transferSend (hp : s.phase = .xferSend) (hidle : s.link.sending = false) :
      CtrlStep s (((s.send s.sample).setCtr (s.ctr + 1#_)).goto .xferPoll)

/-- A `Send` step is held, or its byte is accepted and the rest of the step follows (R56). -/
theorem sendThen_ctrlStep {b : Byte} {rest : State → State} (hp : s.phase.sends = true)
    (hrest : s.link.sending = false → CtrlStep s (rest (s.send b))) (h : sendThen b s rest = .next t) :
    CtrlStep s t := by
  rcases sendThen_cases h with ⟨hlink, rfl⟩ | ⟨hidle, rfl⟩
  · exact .busy hp hlink
  · exact hrest hidle

/-- `TransportInit` and the rest of its step answer a next state only on a quiet link (R59). -/
theorem transportInit_next {v : Speed} {f : State → State}
    (h : onNext (transportInit v s) (fun u => .next (f u)) = .next t) :
    s.linkQuiet = true ∧ t = f (s.initRate v) := by
  rcases transportInit_cases v s with ⟨hquiet, hi⟩ | ⟨-, hi⟩
  · rw [hi] at h
    cases h
    exact ⟨hquiet, rfl⟩
  · rw [hi] at h
    cases h

theorem boot_ctrlStep {k : Fin bootSteps} (hp : s.phase = .boot k) (h : bootStep k s = .next t) : CtrlStep s t := by
  unfold bootStep at h
  split at h
  · next w hw =>
    cases h
    exact .bootWrite k w hp hw
  · next hnone =>
    have hlen : bootWrites.length = 16 := rfl
    have hk : 16 ≤ k.val := hlen ▸ List.getElem?_eq_none_iff.mp hnone
    rw [hlen] at h
    split at h
    · next h16 =>
      cases h
      obtain rfl : k = 16 := Fin.ext h16
      exact .bootRefFreq hp
    · next h16 =>
      obtain rfl : k = 17 := Fin.ext (show k.val = 17 by have : k.val < 18 := k.isLt; omega)
      obtain ⟨hquiet, rfl⟩ := transportInit_next h
      exact .bootInit hp hquiet

theorem fetch_ctrlStep (hp : s.phase = .dFetch) (h : (ctrlTurn s).result = .next t) : CtrlStep s t := by
  cases hrx : s.rx with
  | nil =>
    cases (ctrl_fetch_empty hp hrx).symm.trans h
    exact .held (.inl hp) hrx
  | cons b rest =>
    rw [ctrl_fetch hp hrx] at h
    split at h
    · next i hb =>
      cases (exec_begins (s := s.received b rest b s.param) (.inl hp) i).symm.trans h
      exact .command i b rest hp hrx hb
    · next hb =>
      cases h
      exact .wantsParam b rest hp hrx hb
    · next hb =>
      cases h
      exact .ignored b rest hp hrx hb

theorem param_ctrlStep (hp : s.phase = .dParam) (h : (ctrlTurn s).result = .next t) : CtrlStep s t := by
  cases hrx : s.rx with
  | nil =>
    cases (ctrl_param_empty hp hrx).symm.trans h
    exact .held (.inr hp) hrx
  | cons p rest =>
    rw [ctrl_param hp hrx] at h
    split at h
    · next i hi =>
      cases (exec_begins (s := s.received p rest s.cmd p) (.inr hp) i).symm.trans h
      exact .parameter i p rest hp hrx hi
    · cases h

theorem capture_ctrlStep (hc : s.capturing) (h : (ctrlTurn s).result = .next t) : CtrlStep s t := by
  have hstep : captureStep s = some (.next t) := h ▸ captureStep_of_capturing hc
  cases hp : s.phase <;> simp only [captureStep, hp, Option.some.injEq, reduceCtorEq] at hstep
  case capAck => exact sendThen_ctrlStep (by rw [hp]; rfl) (.ack hp) hstep
  case capDelay => cases hstep; exact .delay hp
  case capPollRx => cases hstep; exact .pollRx hp
  case capPollFill => cases hstep; exact .pollFill hp
  all_goals
    cases hstep
    exact .level _ _ _ (by simp only [State.levelWrite, hp])

theorem transfer_ctrlStep (hx : s.transferring) (h : (ctrlTurn s).result = .next t) : CtrlStep s t := by
  rw [ctrl_send hx] at h
  cases hp : s.phase <;> simp only [State.transferring, Phase.activity, hp, reduceCtorEq] at hx <;>
    simp only [execSend, hp] at h
  case xferSend => exact sendThen_ctrlStep (by rw [hp]; rfl) (.transferSend hp) h
  case xferRdenOn => cases h; exact .rdenOn hp
  case xferPoll => cases h; exact .transferPoll hp
  case xferRead => cases h; exact .transferRead hp
  all_goals
    cases h
    exact .level _ _ _ (by simp only [State.levelWrite, hp])

/-- Whatever a turn of `CTRL` answers is a step of the relation. -/
theorem ctrlTurn_ctrlStep (h : (ctrlTurn s).result = .next t) : CtrlStep s t := by
  cases hp : s.phase with
  | boot k => exact boot_ctrlStep hp (ctrl_boot hp ▸ h)
  | dFetch => exact fetch_ctrlStep hp h
  | dParam => exact param_ctrlStep hp h
  | ver k => exact sendThen_ctrlStep (by rw [hp]; rfl) (.version k hp) (ctrl_ver hp ▸ h)
  | mul k =>
    cases (ctrl_mul hp).symm.trans h
    exact .select k hp
  | dacCsLo =>
    cases (ctrl_dacCsLo hp).symm.trans h
    exact .level _ _ _ (by simp only [State.levelWrite, hp])
  | dacHi =>
    cases (ctrl_dacHi hp).symm.trans h
    exact .dacHi hp
  | dacLo =>
    cases (ctrl_dacLo hp).symm.trans h
    exact .dacLo hp
  | dacCsHi =>
    cases (ctrl_dacCsHi hp).symm.trans h
    exact .level _ _ _ (by simp only [State.levelWrite, hp])
  | edgeSet =>
    cases (ctrl_edgeSet hp).symm.trans h
    exact .level _ _ _ (by simp only [State.levelWrite, hp])
  | baudInit =>
    obtain ⟨hquiet, rfl⟩ := transportInit_next ((ctrl_baudInit hp).symm.trans h)
    exact .toggle hp hquiet
  | capRden | capTrigOn | capTrigOff | capForceOn | capForceOff | capDelay | capPollRx | capPollFill | capAck =>
    exact capture_ctrlStep (by simp [State.capturing, Phase.activity, hp]) h
  | xferRdenOn | xferPoll | xferClkOn | xferClkOff | xferRead | xferSend | xferRdenOff =>
    exact transfer_ctrlStep (by simp [State.transferring, Phase.activity, hp]) h

/-- A step is a turn of `CTRL`, or a move of another agent within the frame of `envMove_frame`. -/
theorem step_next_cases (h : step s = .next t) :
    CtrlStep s.popMove t ∨
    t = { s.popMove with rx := t.rx, tx := t.tx, link := t.link, extFill := t.extFill, extBus := t.extBus } ∧
      (s.booting = true → t.rx = s.rx ∧ t.tx = s.tx) := by
  rcases step_cases s with ⟨-, hctrl⟩ | ⟨m, -, -, hmove⟩
  · exact .inl (ctrlTurn_ctrlStep (hctrl.symm.trans h))
  · exact .inr (envMove_frame (h ▸ hmove))

/-! ## The invariant, line by line and phase by phase -/

/-- What `Inv` asks of one line's registers `v`, at phase `p` with the device registers `d`. -/
def LineOk (p : Phase) (d : DeviceState) : Line → LineReg → Prop
  | .trig, v => v = ⟨dirAfter 1 p, if p = .capTrigOff then .on else .off⟩
  | .force, v => v = ⟨dirAfter 3 p, if p = .capForceOff then .on else .off⟩
  | .rden, v => v = ⟨dirAfter 5 p, rdenLatch p⟩
  | .sclk, v => v = ⟨dirAfter 7 p, if p = .xferClkOff then .on else .off⟩
  | .edge, v => v.dir = dirAfter 9 p ∧ (p ≠ .edgeSet → v.latch = edgeLatch p d.pol)
  | .daccs, v => v = ⟨dirAfter 11 p, daccsLatch p⟩
  | .fill, v => v = .reset
  | .data _, v => v = .reset
  | .sel i, v =>
    match p with
    | .mul k => (2 * i.val + 1 < k.val → v = selectCode d.mult) ∧
        (k.val % 2 = 1 → k.val / 2 = i.val →
          d.mult = .two ∧ v.dir = .input ∨ d.mult ≠ .two ∧ v.latch = (selectCode d.mult).latch)
    | _ => v = selectCode d.mult

/-- What `Inv` asks of the registers that are no lines: `rate` after start-up, and what each phase reads. -/
def State.regsOk (s : State) : Prop :=
  match s.phase with
  | .boot _ => s.dev = State.reset.dev ∧ s.rx = [] ∧ s.tx = []
  | .dParam => s.rate = s.dev.speed ∧ head s.cmd = .wantsParam
  | .capForceOn | .capForceOff => s.rate = s.dev.speed ∧ s.force = true
  | .capAck => s.rate = s.dev.speed ∧ (isStop s.polled = true ∨ s.fill = .on)
  | .xferClkOn | .xferClkOff | .xferRead | .xferSend => s.rate = s.dev.speed ∧ s.ctr < Params.maxSamples
  | _ => s.rate = s.dev.speed

/-- The data bus as a whole, and line by line. -/
theorem data_eq_reset_iff (r : Lines) : r.data = Lines.reset.data ↔ ∀ i, r.get (.data i) = .reset := by
  constructor
  · intro h i
    simp [Lines.get, h, Lines.reset]
  · intro h
    ext i hi : 1
    simpa [Lines.get, Lines.reset] using h ⟨i, hi⟩

/-- The select lines' clauses of `Inv`, one line at a time. -/
theorem selectClauses_iff (p : Phase) (d : DeviceState) (r : Lines) :
    (∀ i, LineOk p d (.sel i) (r.get (.sel i))) ↔
      ((∀ k, p ≠ .mul k) → ∀ i, r.get (.sel i) = selectCode d.mult) ∧
      (∀ k, p = .mul k → ∀ i, 2 * i.val + 1 < k.val → r.get (.sel i) = selectCode d.mult) ∧
      (∀ k, p = .mul k → k.val % 2 = 1 →
        d.mult = .two ∧ (r.get (mulLine k)).dir = .input ∨
        d.mult ≠ .two ∧ (r.get (mulLine k)).latch = (selectCode d.mult).latch) := by
  cases p with
  | mul k =>
    have hline (i : Fin Params.nSel) (hi : k.val / 2 = i.val) : mulLine k = .sel i := by
      simp [mulLine, hi]
    constructor
    · intro h
      refine ⟨fun hne => absurd rfl (hne k), ?_, ?_⟩
      · intro _ heq i hi
        cases heq
        exact (h i).1 hi
      · intro _ heq hodd
        cases heq
        exact (h _).2 hodd rfl
    · rintro ⟨-, hdone, hhalf⟩ i
      exact ⟨hdone k rfl i, fun hodd hi => hline i hi ▸ hhalf k rfl hodd⟩
  | _ => simp [LineOk]

/-- `Inv` is a condition on each line and one on the other registers. -/
theorem inv_iff : Inv s ↔ (∀ l, LineOk s.phase s.dev l (s.lines.get l)) ∧ s.regsOk := by
  constructor
  · intro h
    refine ⟨fun l => ?_, ?_⟩
    · cases l with
      | trig => exact h.trig
      | force => exact h.force
      | edge => exact ⟨h.edgeDir, h.edge⟩
      | rden => exact h.rden
      | sclk => exact h.sclk
      | daccs => exact h.daccs
      | fill => exact h.inputs.1
      | data i => exact (data_eq_reset_iff _).mp h.inputs.2 i
      | sel i => exact (selectClauses_iff _ _ _).mpr ⟨h.select, h.selectDone, h.selectHalf⟩ i
    · have hrate := h.rate
      have hboot := h.boot
      have hparam := h.param
      have hforced := h.forced
      have hack := h.ack
      have hbound := h.bound
      cases hp : s.phase <;> simp_all [State.regsOk, State.booting]
  · rintro ⟨hl, hr⟩
    obtain ⟨hsel, hdone, hhalf⟩ := (selectClauses_iff _ _ _).mp fun i => hl (.sel i)
    exact {
      trig := hl .trig
      force := hl .force
      rden := hl .rden
      sclk := hl .sclk
      edgeDir := (hl .edge).1
      edge := (hl .edge).2
      daccs := hl .daccs
      inputs := ⟨hl .fill, (data_eq_reset_iff _).mpr fun i => hl (.data i)⟩
      select := hsel
      selectDone := hdone
      selectHalf := hhalf
      rate := by cases hp : s.phase <;> simp_all [State.regsOk, State.booting]
      boot := by cases hp : s.phase <;> simp_all [State.regsOk, State.booting]
      param := by intro hp; simp_all [State.regsOk]
      forced := by rintro (hp | hp) <;> simp_all [State.regsOk]
      ack := by intro hp; simp_all [State.regsOk]
      bound := by rintro (hp | hp | hp | hp) <;> simp_all [State.regsOk] }

/-! ## One line write, register by register -/

/-- What a line write makes of the registers `v` of line `m`. -/
def LineWrite.onReg (m : Line) (v : LineReg) : LineWrite → LineReg
  | .dir l d => if m = l then { v with dir := d } else v
  | .level l x => if m = l then { v with latch := x } else v

theorem LineWrite.get_onLines (w : LineWrite) (r : Lines) (m : Line) :
    (w.event.onLines r).get m = w.onReg m (r.get m) := by
  cases w with
  | dir l d =>
    by_cases h : m = l
    · subst h; simp [LineWrite.event, Event.onLines, LineWrite.onReg]
    · simp [LineWrite.event, Event.onLines, LineWrite.onReg, h, Lines.get_withDir_ne]
  | level l v =>
    by_cases h : m = l
    · subst h; simp [LineWrite.event, Event.onLines, LineWrite.onReg]
    · simp [LineWrite.event, Event.onLines, LineWrite.onReg, h, Lines.get_withLatch_ne]

/-! ## How the lines' conditions change from phase to phase -/

/-- A representative of the phases at which `Inv` asks the same of every line: `D_FETCH` for the phases with every
line at its ready level, `DAC_HI` inside the chip-select, `XFER_POLL` inside a transfer between two pulses. -/
def Phase.lineClass : Phase → Phase
  | .dParam | .ver _ | .dacCsLo | .baudInit | .capRden | .capTrigOn | .capForceOn | .capDelay | .capPollRx
  | .capPollFill | .capAck | .xferRdenOn => .dFetch
  | .dacLo | .dacCsHi => .dacHi
  | .xferClkOn | .xferRead | .xferSend | .xferRdenOff => .xferPoll
  | p => p

theorem lineOk_lineClass (p : Phase) (d : DeviceState) (m : Line) (v : LineReg) :
    LineOk p.lineClass d m v ↔ LineOk p d m v := by
  cases p <;> cases m <;> simp [LineOk, Phase.lineClass, dirAfter, rdenLatch, daccsLatch, edgeLatch]

/-- The lines' conditions depend on the phase's class and on two device registers only. -/
theorem lineOk_of_class_eq {p q : Phase} {d e : DeviceState} {m : Line} {v : LineReg}
    (hclass : q.lineClass = p.lineClass) (hmult : e.mult = d.mult) (hpol : e.pol = d.pol)
    (h : LineOk p d m v) : LineOk q e m v := by
  rw [← lineOk_lineClass, ← hclass, lineOk_lineClass] at h
  cases m <;> simpa only [LineOk, hmult, hpol] using h

/-- `BOOT(0)` to `BOOT(15)`, row by row of R212: the written register reaches its ready value, and no other line's
condition changes. -/
theorem lineOk_bootWrite {k : Fin bootSteps} {w : LineWrite} (hw : bootWrites[k.val]? = some w) {m : Line}
    {v : LineReg} (h : LineOk (.boot k) State.reset.dev m v) :
    LineOk (afterBoot k) State.reset.dev m (w.onReg m v) := by
  fin_cases k <;> cases hw <;> cases m <;>
    simp_all [LineOk, LineWrite.onReg, triState, afterBoot, dirAfter, rdenLatch, daccsLatch, edgeLatch, selectCode,
      State.reset, Params.defMult, Params.defPol]

/-- After `BOOT(15)` every line is at its ready value (R36, R212). -/
theorem lineOk_afterBootWrites {k : Fin bootSteps} (hk : 16 ≤ k.val) {m : Line} {v : LineReg} :
    LineOk (.boot k) State.reset.dev m v ↔ LineOk .dFetch State.reset.dev m v := by
  have hpast (n : Nat) (hn : n ≤ 11) : ¬ k.val ≤ n := by omega
  cases m <;> simp [LineOk, dirAfter, rdenLatch, daccsLatch, edgeLatch, hpast, State.reset, Params.defPol]

/-- Forced or not, the phase after the trigger pulse has every line at its ready value (R121). -/
theorem lineClass_afterTrig (f : Bool) : (if f then Phase.capForceOn else .capDelay).lineClass = .dFetch := by
  cases f <;> rfl

/-- The writes of `SETDAC`, `SETEDGE`, the captures and the transfer, row by row: the written line takes the level
R37 asks of it at the next phase, and no other line's condition changes. -/
theorem lineOk_levelWrite {l m : Line} {x : Level} {q : Phase} {v : LineReg}
    (hw : s.levelWrite = some (l, x, q)) (h : LineOk s.phase s.dev m v) :
    LineOk q s.dev m ((LineWrite.level l x).onReg m v) := by
  rw [← lineOk_lineClass]
  cases hp : s.phase <;> rw [hp, ← lineOk_lineClass] at h <;>
    simp only [State.levelWrite, hp, Option.some.injEq, Prod.mk.injEq, reduceCtorEq] at hw <;>
    obtain ⟨rfl, rfl, rfl⟩ := hw
  case capTrigOff =>
    rw [lineClass_afterTrig]
    cases m <;> simp_all [LineOk, Phase.lineClass, LineWrite.onReg, dirAfter, rdenLatch, daccsLatch, edgeLatch]
  all_goals
    cases m <;> simp_all [LineOk, Phase.lineClass, LineWrite.onReg, dirAfter, rdenLatch, daccsLatch, edgeLatch]

/-- The first write of a transfer (R141). -/
theorem lineOk_rdenOn {d : DeviceState} {m : Line} {v : LineReg} (h : LineOk .xferRdenOn d m v) :
    LineOk .xferPoll d m ((LineWrite.level .rden .on).onReg m v) := by
  cases m <;> simp_all [LineOk, LineWrite.onReg, dirAfter, rdenLatch, daccsLatch, edgeLatch]

/-- On every line but the select lines, `MUL(k)` asks what `D_FETCH` does. -/
theorem lineOk_mul {k : Fin mulSteps} {d : DeviceState} {m : Line} {v : LineReg} (hm : ∀ i, m ≠ .sel i) :
    LineOk (.mul k) d m v ↔ LineOk .dFetch d m v := by
  cases m with
  | sel i => exact absurd rfl (hm i)
  | _ => simp [LineOk, dirAfter, rdenLatch, daccsLatch, edgeLatch]

/-- `MUL(k)` writes its own line only (R167). -/
theorem onReg_mulWrite_ne {c : Mult} {k : Fin mulSteps} {m : Line} {v : LineReg} (hm : m ≠ mulLine k) :
    (mulWrite c k).onReg m v = v := by
  cases c <;> simp only [mulWrite, selectWrites, triState, drive] <;> split <;> simp [LineWrite.onReg, hm]

/-- `MUL(0)` to `MUL(3)`: the first write of a line makes it half the new encoding, the second the whole
(R90, R167). -/
theorem lineOk_mulWrite {k : Fin mulSteps} {d : DeviceState} {m : Line} {v : LineReg}
    (h : LineOk (.mul k) d m v) : LineOk (afterMul k) d m ((mulWrite d.mult k).onReg m v) := by
  by_cases hsel : ∀ i, m ≠ .sel i
  · rw [onReg_mulWrite_ne (hsel _)]
    rw [lineOk_mul hsel] at h
    rw [afterMul_eq]
    split
    · exact h
    · exact (lineOk_mul hsel).mpr h
  · obtain ⟨i, rfl⟩ := not_forall_not.mp hsel
    obtain ⟨c, _, _, _⟩ := d
    fin_cases k <;> fin_cases i <;> cases c <;>
      simp_all [LineOk, afterMul, mulWrite, mulLine, selectWrites, triState, drive, LineWrite.onReg, selectCode]

/-! ## What keeps the invariant -/

/-- A step that writes no line, and goes to a phase at which every line is held to the same. -/
theorem Inv.of_same_lines (h : Inv s) (hlines : t.lines = s.lines) (hclass : t.phase.lineClass = s.phase.lineClass)
    (hmult : t.dev.mult = s.dev.mult) (hpol : t.dev.pol = s.dev.pol) (hregs : t.regsOk) : Inv t := by
  obtain ⟨hok, -⟩ := inv_iff.mp h
  exact inv_iff.mpr ⟨fun m => hlines ▸ lineOk_of_class_eq hclass hmult hpol (hok m), hregs⟩

/-- A step that writes one line register. -/
theorem Inv.of_write (h : Inv s) (w : LineWrite) (hlines : t.lines = w.event.onLines s.lines)
    (hline : ∀ m v, LineOk s.phase s.dev m v → LineOk t.phase t.dev m (w.onReg m v))
    (hregs : t.regsOk) : Inv t := by
  obtain ⟨hok, -⟩ := inv_iff.mp h
  refine inv_iff.mpr ⟨fun m => ?_, hregs⟩
  rw [hlines, LineWrite.get_onLines]
  exact hline m _ (hok m)

/-- A step within the frame of the other agents, which during start-up leaves the byte streams alone. -/
theorem Inv.of_frame (h : Inv s) (rx tx : List Byte) (link : Link) (fill : Option Level) (bus : Option Sample)
    (moves : List Move) (hboot : s.booting = true → rx = s.rx ∧ tx = s.tx) :
    Inv { s with rx := rx, tx := tx, link := link, extFill := fill, extBus := bus, sched := moves } := by
  obtain ⟨-, hregs⟩ := inv_iff.mp h
  refine h.of_same_lines rfl rfl rfl rfl ?_
  cases hp : s.phase with
  | boot k =>
    obtain ⟨rfl, rfl⟩ := hboot (by simp [State.booting, hp])
    simpa [State.regsOk, hp] using hregs
  | _ => simpa [State.regsOk, hp] using hregs

/-- After start-up the transport runs at the latched speed (R37 (f)). -/
theorem Inv.rate_at (h : Inv s) {p : Phase} (hp : s.phase = p) (hboot : ∀ k, p ≠ .boot k) :
    s.rate = s.dev.speed := by
  refine h.rate ?_
  rw [State.booting, hp]
  cases p with
  | boot k => exact absurd rfl (hboot k)
  | _ => rfl

/-- A step after start-up that writes no line and no device register. -/
theorem Inv.of_quiet (h : Inv s) {p : Phase} (hp : s.phase = p) (hboot : ∀ k, p ≠ .boot k)
    (hlines : t.lines = s.lines) (hclass : t.phase.lineClass = p.lineClass) (hdev : t.dev = s.dev)
    (hrate : t.rate = s.rate) (hregs : t.rate = t.dev.speed → t.regsOk) : Inv t :=
  h.of_same_lines hlines (hp ▸ hclass) (hdev ▸ rfl) (hdev ▸ rfl)
    (hregs (hrate.trans (hdev ▸ h.rate_at hp hboot)))

/-! ## The steps of start-up -/

/-- During start-up the device registers hold their defaults and no byte has moved (R36, R214). -/
theorem State.regsOk_boot {k : Fin bootSteps} (hp : s.phase = .boot k) :
    s.regsOk ↔ s.dev = State.reset.dev ∧ s.rx = [] ∧ s.tx = [] := by
  simp [State.regsOk, hp]

/-- `BOOT(0)` to `BOOT(15)`. -/
theorem Inv.after_bootWrite (h : Inv s) {k : Fin bootSteps} {w : LineWrite} (hp : s.phase = .boot k)
    (hw : bootWrites[k.val]? = some w) : Inv ((s.perform w).goto (afterBoot k)) := by
  obtain ⟨hdev, hbytes⟩ := (State.regsOk_boot hp).mp (inv_iff.mp h).2
  have hlt : k.val < 16 := (List.getElem?_eq_some_iff.mp hw).1
  have hk : k.val + 1 < bootSteps := show k.val + 1 < 18 by omega
  have hafter : afterBoot k = .boot ⟨k.val + 1, hk⟩ := dif_pos hk
  refine h.of_write w (by rw [perform_eq]; rfl) (fun m v hv => ?_) ?_
  · rw [hp, hdev] at hv
    rw [perform_eq, State.goto_phase, State.goto_dev, hdev]
    exact lineOk_bootWrite hw hv
  · rw [perform_eq, hafter]
    exact ⟨hdev, hbytes⟩

/-- `BOOT(16)`: an event and nothing more. -/
theorem Inv.after_bootRefFreq (h : Inv s) (hp : s.phase = .boot 16) : Inv (s.configRefFreq.goto (.boot 17)) := by
  obtain ⟨hok, hregs⟩ := inv_iff.mp h
  obtain ⟨hdev, hbytes⟩ := (State.regsOk_boot hp).mp hregs
  refine inv_iff.mpr ⟨fun m => ?_, hdev, hbytes⟩
  have hm := hok m
  rw [hp, hdev, lineOk_afterBootWrites (by decide)] at hm
  rw [State.goto_phase, State.goto_dev, State.configRefFreq_dev, hdev]
  exact (lineOk_afterBootWrites (by decide)).mpr hm

/-- `BOOT(17)`: the transport takes the default speed, and the lines are ready (R36, R212). -/
theorem Inv.after_bootInit (h : Inv s) (hp : s.phase = .boot 17) : Inv ((s.initRate .normal).goto .dFetch) := by
  obtain ⟨hok, hregs⟩ := inv_iff.mp h
  obtain ⟨hdev, -, -⟩ := (State.regsOk_boot hp).mp hregs
  refine inv_iff.mpr ⟨fun m => ?_, ?_⟩
  · have hm := hok m
    rw [hp, hdev, lineOk_afterBootWrites (by decide)] at hm
    rw [State.goto_phase, State.goto_dev, State.initRate_dev, hdev]
    exact hm
  · show Speed.normal = s.dev.speed
    rw [hdev]; rfl

/-! ## The steps of the dispatcher and the commands -/

/-- `MUL(0)` asks nothing of the select lines, so the multiplier may change there; it asks what `D_FETCH` does of
the others. -/
theorem lineOk_mul_start {d e : DeviceState} {m : Line} {v : LineReg} (hpol : e.pol = d.pol)
    (h : LineOk .dFetch d m v) : LineOk (.mul 0) e m v := by
  cases m <;> simp_all [LineOk, dirAfter, rdenLatch, daccsLatch, edgeLatch]

/-- `EDGE_SET` asks nothing of the latch of `L_EDGE`, so the polarity may change there. -/
theorem lineOk_edgeSet {d e : DeviceState} {m : Line} {v : LineReg} (hmult : e.mult = d.mult)
    (h : LineOk .dFetch d m v) : LineOk .edgeSet e m v := by
  cases m <;> simp_all [LineOk, dirAfter, rdenLatch, daccsLatch]

/-- The reception of a byte, and the beginning of a command with it (R160). -/
theorem Inv.after_begins (h : Inv s) (hp : s.phase = .dFetch ∨ s.phase = .dParam) (i : Instr) (b : Byte)
    (rest : List Byte) (c p : Byte) : Inv ((s.received b rest c p).begun i) := by
  have hclass : s.phase.lineClass = .dFetch := by rcases hp with hp | hp <;> rw [hp] <;> rfl
  have hrate : s.rate = s.dev.speed := by rcases hp with hp | hp <;> exact h.rate_at hp nofun
  have hready (m : Line) : LineOk .dFetch s.dev m (s.lines.get m) := by
    rw [← hclass, lineOk_lineClass]
    exact (inv_iff.mp h).1 m
  cases i with
  | setmult x =>
    simp only [State.begun]
    split
    · exact inv_iff.mpr ⟨fun m => lineOk_mul_start (d := s.dev) rfl (hready m), hrate⟩
    · exact h.of_same_lines rfl hclass.symm rfl rfl hrate
  | setedge x =>
    simp only [State.begun]
    split
    · exact inv_iff.mpr ⟨fun m => lineOk_edgeSet (d := s.dev) rfl (hready m), hrate⟩
    · exact h.of_same_lines rfl hclass.symm rfl rfl hrate
  | _ => exact h.of_same_lines rfl hclass.symm rfl rfl hrate

/-- `VER(k)`: a byte is sent, and no line written (R164). -/
theorem Inv.after_version (h : Inv s) {k : Fin 16} (hp : s.phase = .ver k) (b : Byte) :
    Inv ((s.send b).goto (afterVer k)) := by
  have hrate := h.rate_at hp nofun
  rw [afterVer_eq]
  split <;> exact h.of_same_lines rfl (by rw [hp]; rfl) rfl rfl hrate

/-- `MUL(k)`: one write of a select line (R167). -/
theorem Inv.after_select (h : Inv s) {k : Fin mulSteps} (hp : s.phase = .mul k) :
    Inv ((s.perform (mulWrite s.dev.mult k)).goto (afterMul k)) := by
  have hrate := h.rate_at hp nofun
  refine h.of_write _ (by rw [perform_eq]; rfl) (fun m v hv => ?_) ?_
  · rw [hp] at hv
    rw [perform_eq]
    exact lineOk_mulWrite hv
  · rw [perform_eq, afterMul_eq]
    split <;> exact hrate

/-- The steps that write one level. -/
theorem Inv.after_level (h : Inv s) {l : Line} {x : Level} {q : Phase} (hw : s.levelWrite = some (l, x, q)) :
    Inv ((s.setLevel l x).goto q) := by
  refine h.of_write (.level l x) rfl (fun m v hv => lineOk_levelWrite (s := s) hw hv) ?_
  have hregs := (inv_iff.mp h).2
  cases hp : s.phase <;>
    simp only [State.levelWrite, hp, Option.some.injEq, Prod.mk.injEq, reduceCtorEq] at hw <;>
    obtain ⟨rfl, rfl, rfl⟩ := hw <;> simp only [State.regsOk, hp] at hregs
  case capTrigOff =>
    cases hf : s.force
    · exact hregs
    · exact ⟨hregs, hf⟩
  case capForceOff => exact hregs.1
  all_goals exact hregs

/-- `CAP_POLL_FILL`: the wait ends only with the stop byte polled or the fill level read (R127, R129). -/
theorem Inv.after_pollFill (h : Inv s) (hp : s.phase = .capPollFill) : Inv (capPollFill s) := by
  cases he : captureEnds s.polled (s.readLevel .fill).1 with
  | false =>
    simp only [capPollFill, he, Bool.false_eq_true, reduceIte]
    exact h.of_quiet hp nofun rfl rfl rfl rfl id
  | true =>
    have hends : isStop s.polled = true ∨ (s.readLevel .fill).1 = .on := by simpa [captureEnds] using he
    simp only [capPollFill, he, reduceIte]
    exact h.of_quiet hp nofun rfl rfl rfl rfl fun hrate => ⟨hrate, hends⟩

/-- `XFER_POLL`: a pulse follows only below the bound (R142). -/
theorem Inv.after_xferPoll (h : Inv s) (hp : s.phase = .xferPoll) : Inv (xferPoll s) := by
  cases hg : transferGoesOn s.recvTry.1 s.ctr with
  | false =>
    simp only [xferPoll, hg, Bool.false_eq_true, reduceIte]
    exact h.of_quiet hp nofun rfl rfl rfl rfl id
  | true =>
    have hbound : s.ctr < Params.maxSamples := by
      simp only [transferGoesOn, Bool.and_eq_true, decide_eq_true_eq] at hg
      exact hg.2
    simp only [xferPoll, hg, reduceIte]
    exact h.of_quiet hp nofun rfl rfl rfl rfl fun hrate => ⟨hrate, hbound⟩

/-- Every turn of `CTRL` keeps the invariant. -/
theorem CtrlStep.keeps_inv (hstep : CtrlStep s t) (h : Inv s) : Inv t := by
  cases hstep with
  | held => exact h
  | busy => exact h.of_frame _ _ _ _ _ _ fun _ => ⟨rfl, rfl⟩
  | bootWrite k w hp hw => exact h.after_bootWrite hp hw
  | bootRefFreq hp => exact h.after_bootRefFreq hp
  | bootInit hp _ => exact h.after_bootInit hp
  | wantsParam b rest hp _ hb => exact h.of_quiet hp nofun rfl rfl rfl rfl fun hrate => ⟨hrate, hb⟩
  | ignored b rest hp _ _ => exact h.of_quiet hp nofun rfl rfl rfl rfl id
  | command i b rest hp _ _ => exact h.after_begins (.inl hp) i b rest b s.param
  | parameter i p rest hp _ _ => exact h.after_begins (.inr hp) i p rest s.cmd p
  | version k hp _ => exact h.after_version hp _
  | select k hp => exact h.after_select hp
  | level l v q hw => exact h.after_level hw
  | dacHi hp => exact h.of_quiet hp nofun rfl rfl rfl rfl id
  | dacLo hp => exact h.of_quiet hp nofun rfl rfl rfl rfl id
  | toggle hp _ => exact h.of_same_lines rfl (by rw [hp]; rfl) rfl rfl rfl
  | delay hp => exact h.of_quiet hp nofun rfl rfl rfl rfl id
  | pollRx hp => exact h.of_quiet hp nofun rfl rfl rfl rfl id
  | pollFill hp => exact h.after_pollFill hp
  | ack hp _ => exact h.of_quiet hp nofun rfl rfl rfl rfl id
  | rdenOn hp =>
    exact h.of_write (.level .rden .on) rfl (fun m v hv => lineOk_rdenOn (hp ▸ hv)) (h.rate_at hp nofun)
  | transferPoll hp => exact h.after_xferPoll hp
  | transferRead hp =>
    have hbound : s.ctr < Params.maxSamples := h.bound (by simp [hp])
    exact h.of_quiet hp nofun rfl rfl rfl rfl fun hrate => ⟨hrate, hbound⟩
  | transferSend hp _ => exact h.of_quiet hp nofun rfl rfl rfl rfl id

/-- Taking the turn off the schedule. -/
theorem Inv.popMove (h : Inv s) : Inv s.popMove := h.of_frame _ _ _ _ _ _ fun _ => ⟨rfl, rfl⟩

/-- The row of `BOOT(0)` is met by an input with its latch OFF (R36). -/
theorem lineOk_reset (m : Line) : LineOk (.boot 0) State.reset.dev m .reset := by
  cases m <;> simp [LineOk, dirAfter, rdenLatch, daccsLatch, edgeLatch, selectCode, LineReg.reset, State.reset,
    Params.defMult]

/-- At power-on every line is an input with its latch OFF (R36, R211). -/
theorem Lines.get_reset (m : Line) : Lines.reset.get m = .reset := by
  cases m <;> simp [Lines.get, Lines.reset]

/-! ## The trace and the line registers -/

/-- A step appends nothing and leaves the lines, or appends one event and leaves the lines as that event says. -/
inductive ReplaysOne (s t : State) : Prop where
  | silent (htrace : t.trace = s.trace) (hlines : t.lines = s.lines)
  | event (e : Event) (htrace : t.trace = s.trace ++ [e]) (hlines : t.lines = e.onLines s.lines)

@[simp] theorem State.begun_lines (s : State) (i : Instr) : (s.begun i).lines = s.lines := by
  cases i with
  | setmult p => simp only [State.begun]; split <;> rfl
  | setedge p => simp only [State.begun]; split <;> rfl
  | _ => rfl

/-- A turn of `CTRL` writes a line register only as the event it appends says (R101, R102). -/
theorem CtrlStep.replaysOne (hstep : CtrlStep s t) : ReplaysOne s t := by
  cases hstep with
  | held | busy => exact .silent rfl rfl
  | bootWrite | select => exact .event _ (by rw [perform_eq]; rfl) (by rw [perform_eq]; rfl)
  | command i b rest =>
    exact .event (.rxB b) ((s.received b rest b s.param).begun_trace i) ((s.received b rest b s.param).begun_lines i)
  | parameter i p rest =>
    exact .event (.rxB p) ((s.received p rest s.cmd p).begun_trace i) ((s.received p rest s.cmd p).begun_lines i)
  | _ => exact .event _ rfl rfl

theorem replay_append (trace : List Event) (e : Event) : replay (trace ++ [e]) = e.onLines (replay trace) := by
  simp [replay]

theorem ReplaysOne.keeps_replay (hstep : ReplaysOne s t) (h : s.lines = replay s.trace) :
    t.lines = replay t.trace := by
  cases hstep with
  | silent htrace hlines => rw [hlines, htrace, h]
  | event e htrace hlines => rw [hlines, htrace, replay_append, h]

/-! ## What a step does to the activity -/

/-- What R22 allows a step from phase `p` to phase `q` to do to the activity. -/
def Phase.mayLeadTo (p q : Phase) : Prop :=
  q.activity = p.activity ∨
  (p = .dFetch ∧ (q = .capRden ∨ q = .xferRdenOn)) ∨
  ((p = .capAck ∨ p = .xferRdenOff) ∧ q = .dFetch)

/-- A command begins idle, or at the first phase of a capture or of a transfer (R160). -/
theorem begun_activity (s : State) (i : Instr) :
    (s.begun i).phase.activity = .idle ∨ (s.begun i).phase = .capRden ∨ (s.begun i).phase = .xferRdenOn := by
  cases i with
  | setmult p => simp only [State.begun]; split <;> exact .inl rfl
  | setedge p => simp only [State.begun]; split <;> exact .inl rfl
  | capture | fcapture => exact .inr (.inl rfl)
  | send => exact .inr (.inr rfl)
  | _ => exact .inl rfl

/-- No command with a parameter is a capture or a transfer (R83). -/
theorem begun_withParam_idle {c p : Byte} {i : Instr} (h : withParam c p = some i) (s : State) :
    (s.begun i).phase.activity = .idle := by
  unfold withParam at h
  split_ifs at h <;> cases h <;> simp only [State.begun]
  · split <;> rfl
  · rfl
  · split <;> rfl

theorem levelWrite_mayLeadTo {l : Line} {v : Level} {q : Phase} (hw : s.levelWrite = some (l, v, q)) :
    s.phase.mayLeadTo q := by
  cases hp : s.phase <;>
    simp only [State.levelWrite, hp, Option.some.injEq, Prod.mk.injEq, reduceCtorEq] at hw <;>
    obtain ⟨-, -, rfl⟩ := hw
  case capTrigOff => exact .inl (by split <;> rfl)
  case xferRdenOff => exact .inr (.inr ⟨.inr rfl, rfl⟩)
  all_goals exact .inl rfl

/-- R22 for a turn of `CTRL`: only the reception of a command byte begins a capture or a transfer, and only their
last steps return to the dispatcher. -/
theorem CtrlStep.mayLeadTo (hstep : CtrlStep s t) : s.phase.mayLeadTo t.phase := by
  cases hstep with
  | held | busy => exact .inl rfl
  | bootWrite k w hp =>
    rw [hp, State.goto_phase, afterBoot]
    exact .inl (by split <;> rfl)
  | command i b rest hp =>
    rw [hp]
    rcases begun_activity (s.received b rest b s.param) i with hidle | hbegun
    · exact .inl hidle
    · exact .inr (.inl ⟨rfl, hbegun⟩)
  | parameter i p rest hp _ hi =>
    rw [hp]
    exact .inl (begun_withParam_idle hi _)
  | version k hp =>
    rw [hp, State.goto_phase, afterVer]
    exact .inl (by split <;> rfl)
  | select k hp =>
    rw [hp, State.goto_phase, afterMul]
    exact .inl (by split <;> rfl)
  | level l v q hw => exact levelWrite_mayLeadTo hw
  | pollFill hp =>
    rw [hp]
    exact .inl (by simp only [capPollFill, State.goto_phase]; split <;> rfl)
  | transferPoll hp =>
    rw [hp]
    exact .inl (by simp only [xferPoll, State.goto_phase]; split <;> rfl)
  | ack hp =>
    rw [hp]
    exact .inr (.inr ⟨.inl rfl, rfl⟩)
  | bootRefFreq hp | bootInit hp | wantsParam _ _ hp | ignored _ _ hp | dacHi hp | dacLo hp | toggle hp | delay hp
  | pollRx hp | rdenOn hp | transferRead hp | transferSend hp =>
    rw [hp]
    exact .inl rfl

/-! ## What an instruction does to the device registers -/

/-- `exec i` leaves the device registers, or is one of their four writers at the step that writes (R23, R24). -/
inductive WritesDev (s : State) : Instr → State → Prop where
  | none {i : Instr} {t : State} (h : t.dev = s.dev) : WritesDev s i t
  | mult (p : Byte) (m : Mult) : WritesDev s (.setmult p) ((s.setMult m).goto (.mul 0))
  | dac (p : Byte) : WritesDev s (.setdac p) ((s.setDac p).goto .dacCsLo)
  | pol (p : Byte) (q : Polarity) : WritesDev s (.setedge p) ((s.setPol q).goto .edgeSet)
  | speed (v : Speed) (hp : s.phase = .baudInit) :
      WritesDev s .togbaud (((s.initRate v).setSpeed v).goto .dFetch)

theorem sendThen_dev {b : Byte} {rest : State → State} (h : sendThen b s rest = .next t)
    (hrest : ∀ u, (rest u).dev = u.dev) : t.dev = s.dev := by
  rcases sendThen_cases h with ⟨-, rfl⟩ | ⟨-, rfl⟩
  · rfl
  · rw [hrest]; rfl

theorem captureStep_dev (h : captureStep s = some (.next t)) : t.dev = s.dev := by
  cases hp : s.phase <;> simp only [captureStep, hp, Option.some.injEq, reduceCtorEq] at h
  case capAck => exact sendThen_dev h fun _ => rfl
  all_goals
    cases h
    rfl

theorem execSend_dev (h : execSend s = .next t) : t.dev = s.dev := by
  cases hp : s.phase <;> simp only [execSend, hp] at h
  case xferSend => exact sendThen_dev h fun _ => rfl
  all_goals
    cases h
    rfl

/-- What an instruction at any phase does to the device registers. -/
theorem exec_writesDev {i : Instr} (h : exec i s = .next t) : WritesDev s i t := by
  cases i with
  | version =>
    simp only [exec, execVersion] at h
    split at h
    · exact .none (sendThen_dev h fun _ => rfl)
    · cases h; exact .none rfl
  | setmult p =>
    simp only [exec, execSetmult] at h
    split at h
    · cases h; exact .none (by rw [perform_eq]; rfl)
    · split at h
      · cases h; exact .mult p _
      · cases h; exact .none rfl
  | setdac p =>
    simp only [exec, execSetdac] at h
    split at h
    · cases h; exact .none rfl
    · cases h; exact .none rfl
    · cases h; exact .none rfl
    · cases h; exact .none rfl
    · cases h; exact .dac p
  | capture =>
    simp only [exec, execCapture] at h
    split at h
    · next hc => exact .none (captureStep_dev (h ▸ hc))
    · cases h; exact .none rfl
  | fcapture =>
    simp only [exec, execFcapture] at h
    split at h
    · next hc => exact .none (captureStep_dev (h ▸ hc))
    · cases h; exact .none rfl
  | send => exact .none (execSend_dev h)
  | setedge p =>
    simp only [exec, execSetedge] at h
    split at h
    · cases h; exact .none rfl
    · split at h
      · cases h; exact .pol p _
      · cases h; exact .none rfl
  | togbaud =>
    simp only [exec, execTogbaud] at h
    split at h
    · next hp =>
      obtain ⟨-, rfl⟩ := transportInit_next h
      exact .speed _ hp
    · cases h; exact .none rfl
  | stop => cases h; exact .none rfl

/-! ## A phase inside a command is that command's -/

theorem ctrl_eq_exec_version {k : Fin 16} (hp : s.phase = .ver k) : (ctrlTurn s).result = exec .version s := by
  simp [ctrlTurn, hp, Turn.result]

theorem ctrl_eq_exec_setmult {k : Fin mulSteps} (hp : s.phase = .mul k) (p : Byte) :
    (ctrlTurn s).result = exec (.setmult p) s := by
  rw [ctrl_mul hp]
  simp only [exec, execSetmult, hp]

theorem ctrl_eq_exec_setdac (hp : s.phase = .dacCsLo ∨ s.phase = .dacHi ∨ s.phase = .dacLo ∨ s.phase = .dacCsHi)
    (p : Byte) : (ctrlTurn s).result = exec (.setdac p) s := by
  rcases hp with hp | hp | hp | hp <;> simp only [ctrlTurn, Turn.result, exec, execSetdac, hp]

theorem ctrl_eq_exec_setedge (hp : s.phase = .edgeSet) (p : Byte) : (ctrlTurn s).result = exec (.setedge p) s := by
  rw [ctrl_edgeSet hp]
  simp only [exec, execSetedge, hp]

theorem ctrl_eq_exec_togbaud (hp : s.phase = .baudInit) : (ctrlTurn s).result = exec .togbaud s := by
  simp [ctrlTurn, hp, Turn.result]

theorem ctrl_eq_exec_captures (hc : s.capturing) :
    (ctrlTurn s).result = exec .capture s ∧ (ctrlTurn s).result = exec .fcapture s := by
  have hstep := captureStep_of_capturing hc
  constructor <;> simp only [exec, execCapture, execFcapture, hstep]

/-! ## The ready state -/

/-- The ready directions (R37 (g)). -/
theorem dir_of_lineOk_dFetch {d : DeviceState} {m : Line} {v : LineReg} (hm : ∀ i, m ≠ .sel i)
    (h : LineOk .dFetch d m v) : v.dir = (readyLines.get m).dir := by
  cases m with
  | sel i => exact absurd rfl (hm i)
  | edge => exact h.1
  | data i => exact congrArg LineReg.dir (h.trans (Lines.get_reset (.data i)).symm)
  | _ => exact congrArg LineReg.dir h

/-- At `D_FETCH` the invariant gives the list of R37. -/
theorem Inv.atReady (h : Inv s) (hp : s.phase = .dFetch) : AtReady s := by
  have hline (m : Line) : LineOk .dFetch s.dev m (s.lines.get m) := hp ▸ (inv_iff.mp h).1 m
  exact {
    pulseLines := ⟨congrArg LineReg.latch (hline .trig), congrArg LineReg.latch (hline .force),
      congrArg LineReg.latch (hline .sclk)⟩
    chipSelect := congrArg LineReg.latch (hline .daccs)
    readEnable := congrArg LineReg.latch (hline .rden)
    select := fun i => hline (.sel i)
    edge := (hline .edge).2 nofun
    rate := h.rate_at hp nofun
    dirs := fun m hm => dir_of_lineOk_dFetch hm (hline m) }

end

/-- Settles O39: at power-on every line is as the row of `BOOT(0)` asks, whatever is scheduled. -/
theorem invHoldsAtPowerOn : Obligations.InvHoldsAtPowerOn := fun _ =>
  inv_iff.mpr ⟨fun m => (Lines.get_reset m).symm ▸ lineOk_reset m, rfl, rfl, rfl⟩

/-- Settles O40: `CTRL`'s turns by `CtrlStep.keeps_inv`, the other agents' moves by their frame. -/
theorem everyStepKeepsInv : Obligations.EveryStepKeepsInv := by
  intro s t h hstep
  rcases step_next_cases hstep with hctrl | ⟨ht, hboot⟩
  · exact hctrl.keeps_inv h.popMove
  · rw [ht]
    exact h.popMove.of_frame _ _ _ _ _ _ hboot

/-- Settles O42: each step replays at most the one event it appends; the other agents touch neither side. -/
theorem traceReplaysLines : Obligations.TraceReplaysLines := by
  refine ⟨rfl, fun s t h hstep => ?_⟩
  rcases step_next_cases hstep with hctrl | ⟨ht, -⟩
  · exact hctrl.replaysOne.keeps_replay h
  · rw [ht]
    exact h

/-- Settles O41: the invariant holds of every reachable state, and its rows for these phases are the claim. -/
theorem readyInvariantsHold : Obligations.ReadyInvariantsHold := by
  intro s hs
  have hinv : Inv s := hs.of_step invHoldsAtPowerOn everyStepKeepsInv
  exact ⟨hinv.atReady, fun hp => (Params.lt_maxSamples s.ctr).mp (hinv.bound hp)⟩

/-- Settles O45: the moves of the other agents leave `phase` alone. -/
theorem activityChangesOnlyAtItsEnds : Obligations.ActivityChangesOnlyAtItsEnds := by
  intro s t hstep
  rcases step_next_cases hstep with hctrl | ⟨ht, -⟩
  · exact hctrl.mayLeadTo
  · rw [ht]
    exact .inl rfl

/-- Settles O46: of the four writers each writes its own register, at the step named. -/
theorem oneWriterPerDeviceRegister : Obligations.OneWriterPerDeviceRegister := by
  intro i s t hexec
  cases exec_writesDev hexec with
  | none h => simp [h]
  | mult p m => exact ⟨fun _ => ⟨p, rfl, rfl⟩, (absurd rfl ·), (absurd rfl ·), (absurd rfl ·)⟩
  | dac p => exact ⟨(absurd rfl ·), fun _ => ⟨rfl, rfl⟩, (absurd rfl ·), (absurd rfl ·)⟩
  | pol p q => exact ⟨(absurd rfl ·), (absurd rfl ·), fun _ => ⟨p, rfl, rfl⟩, (absurd rfl ·)⟩
  | speed v hp => exact ⟨(absurd rfl ·), (absurd rfl ·), (absurd rfl ·), fun _ => ⟨rfl, hp, rfl⟩⟩

/-- Settles O11: the step is `CTRL`'s turn on the state with the turn taken off the schedule. -/
theorem stepContinuesCommand : Obligations.StepContinuesCommand := by
  intro s hctrl u
  have hstep : step s = (ctrlTurn u).result := step_ctrl hctrl
  rw [hstep]
  exact ⟨fun k hp => ctrl_eq_exec_version (s := u) hp, fun k p hp => ctrl_eq_exec_setmult (s := u) hp p,
    fun p hp => ctrl_eq_exec_setdac (s := u) hp p, fun p hp => ctrl_eq_exec_setedge (s := u) hp p,
    fun hp => ctrl_eq_exec_togbaud (s := u) hp, fun hc => ctrl_eq_exec_captures (s := u) hc,
    fun hx => ctrl_send (s := u) hx⟩

end Sys2Proof.Machine
end

/-! SUPPORT. Proofs of the statements on the byte streams (20_memory.md): what holds a receive and a send, when the
transport cannot be initialised again, and the two moves of `HOST`. -/

namespace Sys2Proof.Machine

section

variable {s : State}

/-! ## The three `Send` phases -/

/-- `VER(k)` sends its byte of the version string (R164). -/
theorem exec_version_at_ver {k : Fin 16} (hp : s.phase = .ver k) :
    exec .version s = sendThen (Params.versionByte k) s fun t => t.goto (afterVer k) :=
  (ctrl_eq_exec_version hp).symm.trans (ctrl_ver hp)

/-- `CAP_ACK` sends the acknowledgement, whichever of the two captures it ends (R129). -/
theorem exec_captures_at_capAck (hp : s.phase = .capAck) :
    exec .capture s = sendThen Params.ackByte s (fun t => t.goto .dFetch) ∧
    exec .fcapture s = sendThen Params.ackByte s (fun t => t.goto .dFetch) := by
  have hstep : captureStep s = some (sendThen Params.ackByte s fun t => t.goto .dFetch) := by
    simp only [captureStep, hp]
  constructor <;> simp only [exec, execCapture, execFcapture, hstep]

/-- `XFER_SEND` sends the sample in hand and counts it (R145). -/
theorem exec_send_at_xferSend (hp : s.phase = .xferSend) :
    exec .send s = sendThen s.sample s fun t => (t.setCtr (t.ctr + 1#_)).goto .xferPoll := by
  simp only [exec, execSend, hp]

/-! ## `TransportInit` outside the model -/

theorem linkQuiet_eq_false_iff :
    s.linkQuiet = false ↔ s.rx ≠ [] ∨ s.link.sending = true ∨ s.link.receiving = true := by
  rw [← Bool.not_eq_true, linkQuiet_iff]
  simp only [not_and_or, Bool.not_eq_false, ne_eq]

theorem transportInit_of_not_quiet (v : Speed) (h : s.linkQuiet = false) :
    transportInit v s = .refused .linkNotQuiet := by
  rcases transportInit_cases v s with ⟨hquiet, -⟩ | ⟨-, hrefused⟩
  · rw [h] at hquiet
    cases hquiet
  · exact hrefused

/-- TOGBAUD's one step initialises the transport at the other speed (R178). -/
theorem exec_togbaud_at_baudInit (hp : s.phase = .baudInit) :
    exec .togbaud s = onNext (transportInit (otherSpeed s.dev.speed) s) fun t =>
      .next ((t.setSpeed (otherSpeed s.dev.speed)).goto .dFetch) :=
  (ctrl_eq_exec_togbaud hp).symm.trans (ctrl_baudInit hp)

/-! ## The moves of the other agents -/

/-- A scheduled move of another agent is what the step answers (R15). -/
theorem step_of_envMove {m : Move} {r : Result} (hm : s.sched.head? = some m)
    (hr : envMove s.popMove m = some r) : step s = r := by
  simp only [step, turn, hm, hr, Turn.result]

/-- After start-up `HOST` may move (R214). -/
theorem hostMove_of_ready (t : State) (h : s.booting = false) : hostMove s t = .next t := by
  simp [hostMove, h]

end

/-- Settles O12: at either receive phase a turn with `rx` empty answers the state it starts from, which is `s` with the
turn taken off. -/
theorem receiveHeldWhileEmpty : Obligations.ReceiveHeldWhileEmpty := by
  intro s hctrl hphase hrx
  rw [step_ctrl hctrl]
  rcases hphase with hp | hp
  · exact ctrl_fetch_empty (s := s.popMove) hp hrx
  · exact ctrl_param_empty (s := s.popMove) hp hrx

/-- Settles O22: the step of each of these phases is a `Send`, and a `Send` on a busy link is held. -/
theorem busyLinkHoldsSend : Obligations.BusyLinkHoldsSend := by
  intro s hbusy u
  refine ⟨fun k hp => ?_, fun hp => ?_, fun hp => ?_⟩
  · exact (exec_version_at_ver hp).trans (sendThen_busy hbusy)
  · obtain ⟨hcapture, hfcapture⟩ := exec_captures_at_capAck hp
    exact ⟨hcapture.trans (sendThen_busy hbusy), hfcapture.trans (sendThen_busy hbusy)⟩
  · exact (exec_send_at_xferSend hp).trans (sendThen_busy hbusy)

/-- Settles O23: each of the three causes makes the link not quiet, and then `TransportInit` refuses the whole step. -/
theorem togbaudOutsideModelUnlessQuiet : Obligations.TogbaudOutsideModelUnlessQuiet := by
  intro s hp hcause
  rw [exec_togbaud_at_baudInit hp, transportInit_of_not_quiet _ (linkQuiet_eq_false_iff.mpr hcause), onNext_refused]

/-- Settles O48: both moves of `HOST` are free after start-up, and each answers its own update of the state with the
move taken off the schedule. -/
theorem hostMoves : Obligations.HostMoves := by
  intro s b
  refine ⟨fun hm hready => ?_, fun hm hready => ?_⟩
  · have hmove : hostMove s.popMove (s.popMove.hostSend b) = .next (s.popMove.hostSend b) :=
      hostMove_of_ready _ hready
    exact step_of_envMove hm (congrArg some hmove)
  · have hmove : hostMove s.popMove s.popMove.hostTake = .next s.popMove.hostTake := hostMove_of_ready _ hready
    exact step_of_envMove hm (congrArg some hmove)

end Sys2Proof.Machine

/-! SUPPORT. Proofs of the statements on the encoding (30_encoding.md): what the decoder answers on each kind of first
byte, that it inverts the encoder on an instruction, a stream and an assembled stream, and the table's numbers. -/

namespace Sys2Proof

section

variable {b p : Byte} {i : Instr} {bs rest : List Byte}

/-! ## The first byte decides (R81) -/

theorem head_cmd0 (hb : b ∈ [0x76#8, 0x43#8, 0x66#8, 0x73#8, 0x42#8, 0x6E#8]) : ∃ i, head b = .whole i := by
  simp only [List.mem_cons, List.not_mem_nil, or_false] at hb
  rcases hb with rfl | rfl | rfl | rfl | rfl | rfl <;> exact ⟨_, rfl⟩

theorem head_eq_wantsParam_iff : head b = .wantsParam ↔ b = 0x72#8 ∨ b = 0x74#8 ∨ b = 0x69#8 := by
  constructor
  · intro h
    unfold head at h
    split_ifs at h <;> simp_all
  · rintro (rfl | rfl | rfl) <;> rfl

/-- The 247 bytes without a row are those that are neither dispatched nor the stop byte (R83, R87). -/
theorem head_eq_unrecognised (hb : b ∉ Machine.dispatchedBytes) (hstop : b ≠ 0x6E#8) : head b = .unrecognised := by
  simp only [Machine.dispatchedBytes, List.mem_cons, List.not_mem_nil, or_false, not_or] at hb
  simp [head, hb, hstop]

/-- `D_PARAM` has a row for every byte after which `D_FETCH` goes there (R160), whatever the parameter. -/
theorem withParam_of_wantsParam (h : head b = .wantsParam) (p : Byte) : ∃ i, withParam b p = some i := by
  rcases head_eq_wantsParam_iff.mp h with rfl | rfl | rfl <;> exact ⟨_, rfl⟩

theorem decode_of_whole (h : head b = .whole i) (rest : List Byte) : decode (b :: rest) = .ok (i, rest) := by
  simp only [decode, h]

theorem decode_of_wantsParam (h : head b = .wantsParam) (hi : withParam b p = some i) (rest : List Byte) :
    decode (b :: p :: rest) = .ok (i, rest) := by
  simp only [decode, h, hi]

theorem decode_of_unrecognised (h : head b = .unrecognised) (rest : List Byte) :
    decode (b :: rest) = .error (.unrecognised b) := by
  simp only [decode, h]

/-! ## A stream is decoded from its front -/

theorem decodeStream_of_whole (h : head b = .whole i) (rest : List Byte) :
    decodeStream (b :: rest) = i :: decodeStream rest := by
  cases rest <;> simp only [decodeStream, h]

theorem decodeStream_of_wantsParam (h : head b = .wantsParam) (hi : withParam b p = some i) (rest : List Byte) :
    decodeStream (b :: p :: rest) = i :: decodeStream rest := by
  simp only [decodeStream, h, hi]

theorem decodeStream_of_unrecognised (h : head b = .unrecognised) (rest : List Byte) :
    decodeStream (b :: rest) = decodeStream rest := by
  cases rest <;> simp only [decodeStream, h]

/-- The stream's decoder takes off the front what `decode` reads there, and goes on with the bytes left over. -/
theorem decodeStream_of_decode (h : decode bs = .ok (i, rest)) : decodeStream bs = i :: decodeStream rest := by
  rcases bs with _ | ⟨b, bs⟩
  · cases h
  · cases hb : head b with
    | whole j =>
      rw [decode_of_whole hb] at h
      cases h
      exact decodeStream_of_whole hb rest
    | unrecognised =>
      rw [decode_of_unrecognised hb] at h
      cases h
    | wantsParam =>
      rcases bs with _ | ⟨p, bs⟩
      · simp only [decode, hb, reduceCtorEq] at h
      · obtain ⟨j, hj⟩ := withParam_of_wantsParam hb p
        rw [decode_of_wantsParam hb hj] at h
        cases h
        exact decodeStream_of_wantsParam hb hj rest

/-! ## Decoding an encoding -/

open Laws in
theorem encodingShape (i : Instr) : EncodingShape.Statement i := by
  cases i with
  | version => exact EncodingShape.version
  | setmult p => exact EncodingShape.setmult p
  | setdac p => exact EncodingShape.setdac p
  | capture => exact EncodingShape.capture
  | fcapture => exact EncodingShape.fcapture
  | send => exact EncodingShape.send
  | setedge p => exact EncodingShape.setedge p
  | togbaud => exact EncodingShape.togbaud
  | stop => exact EncodingShape.stop

theorem decode_encode_append (i : Instr) (rest : List Byte) : decode (encode i ++ rest) = .ok (i, rest) := by
  obtain ⟨-, -, hdecode⟩ := encodingShape i
  exact hdecode rest

theorem decode_encode (i : Instr) : decode (encode i) = .ok (i, []) := by
  simpa using decode_encode_append i []

/-- No encoding is a `CMD1` command byte without its parameter (R80). -/
theorem head_ne_wantsParam_of_encode (h : encode i = [b]) : head b ≠ .wantsParam := by
  obtain ⟨hfirst, hlength, -⟩ := encodingShape i
  rw [h] at hfirst hlength
  cases hfirst
  intro hwants
  simp [hwants] at hlength

/-! ## Assembly (R91) -/

/-- A well-formed item that is no raw byte stands for one instruction. -/
theorem Item.instr_of_wellFormed {it : Item} (hwf : it.wellFormed = true) (hbyte : ∀ n, it ≠ .byte n) :
    ∃ i, it.instr = some i ∧ assembleItem it = encode i := by
  cases it with
  | bare m =>
    cases m with
    | setmult | setdac | setedge => cases hwf
    | _ => exact ⟨_, rfl, rfl⟩
  | operand m n =>
    cases m with
    | setmult | setdac | setedge => exact ⟨_, rfl, rfl⟩
    | _ => cases hwf
  | byte n => exact absurd rfl (hbyte n)
  | edgeRising => exact ⟨_, rfl, rfl⟩
  | edgeFalling => exact ⟨_, rfl, rfl⟩

theorem assemble_eq_flatMap_encode (items : List Item)
    (h : ∀ it ∈ items, it.wellFormed = true ∧ ∀ n, it ≠ .byte n) :
    (items.filterMap Item.instr).length = items.length ∧
      assemble items = (items.filterMap Item.instr).flatMap encode := by
  induction items with
  | nil => exact ⟨rfl, rfl⟩
  | cons it items ih =>
    obtain ⟨⟨hwf, hbyte⟩, hrest⟩ := List.forall_mem_cons.mp h
    obtain ⟨i, hi, hbytes⟩ := it.instr_of_wellFormed hwf hbyte
    obtain ⟨hlength, hassemble⟩ := ih hrest
    rw [assemble] at hassemble
    simp [assemble, hi, hbytes, hlength, hassemble]

/-! ## The table's numbers (log 26) -/

theorem foldl_tableNumber (bs : List Byte) (acc : Nat) :
    bs.foldl (fun acc b => 256 * acc + b.toNat) acc = acc * 256 ^ bs.length + Machine.tableNumber bs := by
  unfold Machine.tableNumber
  induction bs generalizing acc with
  | nil => simp
  | cons b bs ih =>
    simp only [List.foldl_cons, List.length_cons]
    rw [ih (256 * acc + b.toNat), ih (256 * 0 + b.toNat)]
    ring

theorem tableNumber_cons (b : Byte) (bs : List Byte) :
    Machine.tableNumber (b :: bs) = b.toNat * 256 ^ bs.length + Machine.tableNumber bs := by
  simpa [Machine.tableNumber] using foldl_tableNumber bs b.toNat

theorem tableNumber_lt (bs : List Byte) : Machine.tableNumber bs < 256 ^ bs.length := by
  induction bs with
  | nil => simp [Machine.tableNumber]
  | cons b bs ih =>
    calc Machine.tableNumber (b :: bs)
        = b.toNat * 256 ^ bs.length + Machine.tableNumber bs := tableNumber_cons b bs
      _ < (b.toNat + 1) * 256 ^ bs.length := by rw [Nat.succ_mul]; omega
      _ ≤ 256 * 256 ^ bs.length := Nat.mul_le_mul_right _ b.isLt
      _ = 256 ^ (b :: bs).length := by rw [List.length_cons, pow_succ']

/-- What stands above the lowest `k` bytes of a number does not show in them. -/
theorem bytesOf_mul_add (k a w : Nat) : bytesOf k (a * 256 ^ k + w) = bytesOf k w := by
  induction k generalizing a with
  | zero => rfl
  | succ k ih =>
    have hshift : a * 256 ^ (k + 1) + w = a * 256 * 256 ^ k + w := by ring
    have hquot : (a * 256 * 256 ^ k + w) / 256 ^ k = a * 256 + w / 256 ^ k := by
      rw [Nat.mul_comm, Nat.mul_add_div (by positivity)]
    have hbyte : BitVec.ofNat 8 (a * 256 + w / 256 ^ k) = BitVec.ofNat 8 (w / 256 ^ k) :=
      BitVec.eq_of_toNat_eq (by simp)
    rw [bytesOf, bytesOf, hshift, ih, hquot, hbyte]

theorem bytesOf_tableNumber (bs : List Byte) : bytesOf bs.length (Machine.tableNumber bs) = bs := by
  induction bs with
  | nil => rfl
  | cons b bs ih =>
    have hfirst : (b.toNat * 256 ^ bs.length + Machine.tableNumber bs) / 256 ^ bs.length = b.toNat := by
      rw [Nat.mul_comm, Nat.mul_add_div (by positivity), Nat.div_eq_of_lt (tableNumber_lt bs), Nat.add_zero]
    rw [List.length_cons, bytesOf, tableNumber_cons, bytesOf_mul_add, hfirst, ih, BitVec.ofNat_toNat,
      BitVec.setWidth_eq]

/-- The table word of bytes that are no lone `CMD1` command byte gives the bytes back. -/
theorem tableBytes_tableNumber (h : ∀ b, bs = [b] → head b ≠ .wantsParam) :
    tableBytes (8 * bs.length) (Machine.tableNumber bs) = bs := by
  rw [tableBytes, Nat.mul_div_cancel_left _ (by decide), bytesOf_tableNumber]
  split
  · next b => rw [if_neg (h b rfl)]
  · rfl

end

/-- Settles O4, by induction on the instructions: `decode` reads the first encoding whole and leaves the others. -/
theorem streamRoundTrip : Obligations.StreamRoundTrip := by
  intro is
  induction is with
  | nil => rfl
  | cons i is ih => rw [List.flatMap_cons, decodeStream_of_decode (decode_encode_append i _), ih]

/-- Settles O6: the items assemble to the encodings of their instructions, and those decode back. -/
theorem assembledStreamDecodes : Obligations.AssembledStreamDecodes := by
  intro items h
  obtain ⟨hlength, hassemble⟩ := assemble_eq_flatMap_encode items h
  exact ⟨hlength, hassemble ▸ streamRoundTrip _⟩

/-- Settles O7: the three clauses are the three answers of `head`. -/
theorem firstByteDecidesLength : Obligations.FirstByteDecidesLength := by
  intro b p rest
  refine ⟨fun hb => ?_, fun hb => ?_, fun hb hstop => ?_⟩
  · have hwants := head_eq_wantsParam_iff.mpr hb
    obtain ⟨i, hi⟩ := withParam_of_wantsParam hwants p
    exact ⟨i, decode_of_wantsParam hwants hi rest, decodeStream_of_wantsParam hwants hi rest⟩
  · obtain ⟨i, hwhole⟩ := head_cmd0 hb
    exact ⟨i, decode_of_whole hwhole rest, decodeStream_of_whole hwhole rest⟩
  · have hnone := head_eq_unrecognised hb hstop
    exact ⟨decode_of_unrecognised hnone rest, decodeStream_of_unrecognised hnone rest⟩

/-- Settles O3: the first nine words are encodings, the fourth with a byte after it, and 0x56 has no row. -/
theorem writtenWordsDecode : Obligations.WrittenWordsDecode :=
  ⟨decode_encode .version, decode_encode (.setmult 4#8), decode_encode (.setdac 110#8),
    decode_encode_append .capture [0b01110011#8], decode_encode .fcapture, decode_encode .send,
    decode_encode (.setedge 0x72#8), decode_encode .togbaud, decode_encode .stop,
    decode_of_unrecognised (head_eq_unrecognised (by decide) (by decide)) []⟩

/-- Settles O5: the table word of an encoding gives its bytes back, and they decode to the instruction. -/
theorem tableNumbersDecode : Obligations.TableNumbersDecode := by
  intro i
  rw [decodeTableWord, tableBytes_tableNumber fun _ => head_ne_wantsParam_of_encode, decode_encode]

end Sys2Proof

/-! SUPPORT. Proofs of the statements on the line wrapper (40_line_wrapper.md): what the two writes and the two reads
do, and what the select pads show while a multiplier is being set. -/

namespace Sys2Proof

/-- A line reads `ON` exactly for a 1 bit (R107). -/
@[simp] theorem Level.ofBit_beq_on (b : Bool) : (Level.ofBit b == .on) = b := by cases b <;> rfl

end Sys2Proof

namespace Sys2Proof.Machine

section

variable {s t : State} {old new : Mult} {l : Line} {n : Nat}

/-! ## The two reads -/

theorem State.levelOf_of_input (h : (s.lines.get l).dir = .input) : s.levelOf l = s.ext l := by
  simp only [State.levelOf, h]

theorem State.levelOf_of_output (h : (s.lines.get l).dir = .output) : s.levelOf l = (s.lines.get l).latch := by
  simp only [State.levelOf, h]

/-- Where the hardware is known to drive the fill line, that is its level (R62). -/
theorem State.ext_fill_of_driven {v : Level} (h : s.extFill = some v) : s.ext .fill = v := by
  simp only [State.ext, h, Option.getD_some]

/-- Where the sample on the bus is known, that is the byte read (R62, R107). -/
theorem State.readBus_of_driven {b : Sample} (h : s.extBus = some b) : s.readBus.1 = b := by
  simp only [State.readBus, State.busSample, h, Option.getD_some]

/-! ## A select line between two encodings -/

/-- What the outside sees of a line with these two registers (R28). -/
def LineReg.pad (v : LineReg) : Option Level := if v.dir = .output then some v.latch else none

theorem Lines.pad_eq_pad_get (r : Lines) (l : Line) : r.pad l = (r.get l).pad := by
  rcases h : (r.get l).dir <;> simp [Lines.pad, LineReg.pad, h]

/-- A select line on its way from one multiplier's encoding to another's, after so many of its two writes: the first
disables the output, or loads the latch (R105, R106). -/
def selectReg (old new : Mult) : Nat → LineReg
  | 0 => selectCode old
  | 1 => if new = .two then { selectCode old with dir := .input }
    else { selectCode old with latch := (selectCode new).latch }
  | _ + 2 => selectCode new

theorem selectReg_of_two_le (h : 2 ≤ n) : selectReg old new n = selectCode new := by
  obtain ⟨m, rfl⟩ := Nat.exists_eq_add_of_le' h
  rfl

theorem selectWrites_fst_onReg (old new : Mult) (l : Line) :
    (selectWrites new l).1.onReg l (selectReg old new 0) = selectReg old new 1 := by
  cases new <;> simp [selectWrites, triState, drive, LineWrite.onReg, selectReg, selectCode]

theorem selectWrites_snd_onReg (old new : Mult) (l : Line) :
    (selectWrites new l).2.onReg l (selectReg old new 1) = selectReg old new 2 := by
  cases new <;> simp [selectWrites, triState, drive, LineWrite.onReg, selectReg, selectCode]

/-- Of the two writes one shows at the pad at most: the latch changes while the output is disabled, or on an output
straight to its new level (R105, R106). -/
theorem selectReg_pad (old new : Mult) (n : Nat) :
    (selectReg old new n).pad = (selectCode old).pad ∨ (selectReg old new n).pad = (selectCode new).pad := by
  match n with
  | 0 => exact .inl rfl
  | 1 => cases old <;> cases new <;> simp [selectReg, selectCode, LineReg.pad]
  | _ + 2 => exact .inr rfl

/-- `MUL(k)` is the first or the second write of line `k / 2`, and leaves the other select line (R167). -/
theorem mulWrite_onReg_selectReg (old new : Mult) (k : Fin mulSteps) (i : Fin Params.nSel) :
    (mulWrite new k).onReg (.sel i) (selectReg old new (k.val - 2 * i.val)) =
      selectReg old new (k.val + 1 - 2 * i.val) := by
  by_cases hi : k.val / 2 = i.val
  · have hline : mulLine k = .sel i := congrArg Line.sel (Fin.ext hi)
    by_cases heven : k.val % 2 = 0
    · rw [mulWrite, if_pos heven, hline, show k.val - 2 * i.val = 0 by omega,
        show k.val + 1 - 2 * i.val = 1 by omega, selectWrites_fst_onReg]
    · rw [mulWrite, if_neg heven, hline, show k.val - 2 * i.val = 1 by omega,
        show k.val + 1 - 2 * i.val = 2 by omega, selectWrites_snd_onReg]
  · have hne : Line.sel i ≠ mulLine k := fun h => hi (congrArg Fin.val (Line.sel.inj h)).symm
    rw [onReg_mulWrite_ne hne]
    rcases Nat.lt_or_ge k.val (2 * i.val) with hbefore | hafter
    · rw [show k.val - 2 * i.val = 0 by omega, show k.val + 1 - 2 * i.val = 0 by omega]
    · rw [selectReg_of_two_le (by omega), selectReg_of_two_le (by omega)]

/-! ## The run through `MUL(0)` to `MUL(3)` -/

/-- With nothing scheduled, after `n` of the four steps that take the select lines from one encoding to another. -/
structure Selecting (old new : Mult) (n : Nat) (s : State) : Prop where
  sched : s.sched = []
  mult : s.dev.mult = new
  phase : ∀ h : n < mulSteps, s.phase = .mul ⟨n, h⟩
  select : ∀ i : Fin Params.nSel, s.lines.get (.sel i) = selectReg old new (n - 2 * i.val)

theorem Selecting.after_step (h : Selecting old new n s) (hn : n < mulSteps) (hstep : step s = .next t) :
    Selecting old new (n + 1) t := by
  rw [step_nil h.sched, ctrl_mul (h.phase hn), perform_eq, h.mult] at hstep
  cases hstep
  exact {
    sched := h.sched
    mult := h.mult
    phase := fun hlt => dif_pos hlt
    select := fun i => by
      rw [State.goto_lines, LineWrite.get_onLines, h.select i]
      exact mulWrite_onReg_selectReg old new ⟨n, hn⟩ i }

theorem Selecting.after_run {m : Nat} (h : Selecting old new m s) (hn : m + n ≤ mulSteps) (hrun : run n s = .next t) :
    Selecting old new (m + n) t := by
  induction n generalizing m s with
  | zero => cases hrun; exact h
  | succ n ih =>
    rw [run_succ] at hrun
    cases hstep : step s with
    | next u =>
      rw [hstep, onNext_next] at hrun
      rw [← Nat.succ_add_eq_add_succ]
      exact ih (h.after_step (by omega) hstep) (by omega) hrun
    | fault r => cases r
    | refused r => rw [hstep, onNext_refused] at hrun; cases hrun

end

/-- Settles O50: every select register is at some point of its two writes, and no such point shows a third state. -/
theorem selectPadsShowOldOrNew : Obligations.SelectPadsShowOldOrNew := by
  intro s old n t hsched hphase hold hn hrun i
  have hstart : Selecting old s.dev.mult 0 s :=
    ⟨hsched, rfl, fun _ => hphase, fun i => by rw [Nat.zero_sub]; exact hold i⟩
  have hend : Selecting old s.dev.mult (0 + n) t := hstart.after_run (by rwa [Nat.zero_add]) hrun
  simp only [Lines.pad_eq_pad_get, Lines.get_set_same, hold i, hend.select i]
  exact selectReg_pad old s.dev.mult _

/-- Settles O54: `SetDir` is one direction write of the line registers, and its event. -/
theorem setDirWritesOneDirection : Obligations.SetDirWritesOneDirection := fun s l d =>
  ⟨rfl, s.lines.get_withDir_same l d, fun m hm => s.lines.get_withDir_ne l m d hm, s.lines.pad_withDir_same l d⟩

/-- Settles O55: `SetLevel` is one latch write of the line registers, and its event. -/
theorem setLevelWritesOneLatch : Obligations.SetLevelWritesOneLatch := fun s l v =>
  ⟨rfl, s.lines.get_withLatch_same l v, fun m hm => s.lines.get_withLatch_ne l m v hm,
    s.lines.pad_withLatch_same l v⟩

/-- Settles O56: `BUS_MAP` is a permutation, so it reaches every bit. -/
theorem readsReturnTheOutside : Obligations.ReadsReturnTheOutside := by
  intro s
  refine ⟨fun l => State.levelOf_of_input, fun l => State.levelOf_of_output, fun i => ?_, Config.busMap.surjective,
    fun v => State.ext_fill_of_driven, fun b => State.readBus_of_driven⟩
  rw [readBus_bit, Level.ofBit_beq_on]

end Sys2Proof.Machine

/-! SUPPORT. Proofs of the statements on the capture sequencer (41_capture_sequencer.md): what a step inside a capture
can be, the events of a capture as a grammar over its phases, and the wait that only a stop byte or the fill level
ends. -/

namespace Sys2Proof.Machine

section

variable {s t u : State}

/-! ## Runs -/

/-- The packaged induction for runs: what every step keeps holds where a run ends. -/
theorem run_keeps {P : State → Prop} (hstep : ∀ t u, P t → step t = .next u → P u) {n : Nat} (hs : P s)
    (hrun : run n s = .next t) : P t := by
  induction n generalizing s with
  | zero => cases hrun; exact hs
  | succ n ih =>
    rw [run_succ] at hrun
    cases hu : step s with
    | next u =>
      rw [hu, onNext_next] at hrun
      exact ih (hstep s u hs hu) hrun
    | fault r => cases r
    | refused r => rw [hu, onNext_refused] at hrun; cases hrun

/-- Its companion for existence: where no step is refused and each leads on to `P`, runs of every length do. -/
theorem run_exists {P : State → Prop} (hstep : ∀ t, P t → ∃ u, step t = .next u ∧ P u) (hs : P s) (n : Nat) :
    ∃ t, run n s = .next t ∧ P t := by
  induction n generalizing s with
  | zero => exact ⟨s, rfl, hs⟩
  | succ n ih =>
    obtain ⟨u, hu, hP⟩ := hstep s hs
    obtain ⟨t, hrun, ht⟩ := ih hP
    exact ⟨t, by rw [run_succ, hu, onNext_next, hrun], ht⟩

/-- The trace only grows, whoever moves (R16). -/
theorem step_trace_grows (h : step s = .next t) : ∃ news, t.trace = s.trace ++ news := by
  rcases step_next_cases h with hctrl | ⟨ht, -⟩
  · cases hctrl.replaysOne with
    | silent htrace => exact ⟨[], by simpa using htrace⟩
    | event e htrace => exact ⟨[e], htrace⟩
  · exact ⟨[], by rw [ht]; simp⟩

/-! ## One step inside a capture -/

/-- The registers and the trace that a move of another agent leaves as they are, as far as a capture reads them. -/
theorem envMove_keeps {m : Move} (h : envMove s m = some (.next t)) :
    t.phase = s.phase ∧ t.polled = s.polled ∧ t.force = s.force ∧ t.dev = s.dev ∧ t.trace = s.trace := by
  rw [(envMove_frame h).1]
  exact ⟨rfl, rfl, rfl, rfl, rfl⟩

/-- A move of `HOST` that is not refused is the move asked for (R214). -/
theorem hostMove_next (h : hostMove s t = .next u) : u = t := by
  unfold hostMove at h
  split at h
  · cases h
  · cases h; rfl

/-- Inside a capture a step is the sequencer's, or a move of another agent. -/
theorem capturing_step_cases (hc : s.capturing) (h : step s = .next t) :
    captureStep s.popMove = some (.next t) ∨
    ∃ m, s.sched.head? = some m ∧ envMove s.popMove m = some (.next t) := by
  rcases step_cases s with ⟨-, hctrl⟩ | ⟨m, hm, -, hmove⟩
  · rw [h] at hctrl
    rw [hctrl]
    exact .inl (captureStep_of_capturing (s := s.popMove) hc)
  · exact .inr ⟨m, hm, h ▸ hmove⟩

/-- The sequencer is never refused: its one wait for another agent, a busy link, is a held turn (R56). -/
theorem captureStep_next {r : Result} (h : captureStep s = some r) : ∃ t, r = .next t := by
  cases hp : s.phase <;> simp only [captureStep, hp, Option.some.injEq, reduceCtorEq] at h
  case capAck =>
    cases hlink : s.link.sending with
    | true => exact ⟨_, h ▸ sendThen_busy hlink⟩
    | false => exact ⟨_, h ▸ sendThen_idle hlink⟩
  all_goals exact ⟨_, h.symm⟩

/-- Inside a capture no step is refused, whoever moves. -/
theorem capturing_progress (hc : s.capturing) : ∃ t, step s = .next t := by
  rcases step_cases s with ⟨-, hctrl⟩ | ⟨m, -, -, hmove⟩
  · rw [hctrl]
    exact captureStep_next (captureStep_of_capturing (s := s.popMove) hc)
  · cases h : step s with
    | next t => exact ⟨t, rfl⟩
    | fault r => cases r
    | refused r =>
      obtain ⟨-, hboot⟩ := envMove_refused (h ▸ hmove)
      cases hp : s.phase <;> simp [State.capturing, Phase.activity, State.booting, hp] at hc hboot

/-- With nothing scheduled the sequencer's step is the step. -/
theorem step_of_captureStep {r : Result} (hs : s.sched = []) (h : captureStep s = some r) : step s = r :=
  (step_nil hs).trans (ctrl_capture h)

/-! The sequencer's step at each phase (R122 to R129). -/

theorem captureStep_capRden (hp : s.phase = .capRden) :
    captureStep s = some (.next ((s.setLevel .rden .off).goto .capTrigOn)) := by
  simp only [captureStep, hp]

theorem captureStep_capTrigOn (hp : s.phase = .capTrigOn) :
    captureStep s = some (.next ((s.setLevel .trig .on).goto .capTrigOff)) := by
  simp only [captureStep, hp]

theorem captureStep_capTrigOff (hp : s.phase = .capTrigOff) :
    captureStep s = some (.next ((s.setLevel .trig .off).goto (if s.force then .capForceOn else .capDelay))) := by
  simp only [captureStep, hp]

theorem captureStep_capForceOn (hp : s.phase = .capForceOn) :
    captureStep s = some (.next ((s.setLevel .force .on).goto .capForceOff)) := by
  simp only [captureStep, hp]

theorem captureStep_capForceOff (hp : s.phase = .capForceOff) :
    captureStep s = some (.next ((s.setLevel .force .off).goto .capDelay)) := by
  simp only [captureStep, hp]

theorem captureStep_capDelay (hp : s.phase = .capDelay) :
    captureStep s = some (.next ((s.delayUs Params.settleUs).goto .capPollRx)) := by
  simp only [captureStep, hp]

theorem captureStep_capPollRx (hp : s.phase = .capPollRx) : captureStep s = some (.next (capPollRx s)) := by
  simp only [captureStep, hp]

theorem captureStep_capPollFill (hp : s.phase = .capPollFill) : captureStep s = some (.next (capPollFill s)) := by
  simp only [captureStep, hp]

theorem captureStep_capAck (hp : s.phase = .capAck) :
    captureStep s = some (sendThen Params.ackByte s fun t => t.goto .dFetch) := by
  simp only [captureStep, hp]

/-- Once a capture is under way `force` stays as it is (R130, R131). -/
theorem captureStep_force (h : captureStep s = some (.next t)) : t.force = s.force := by
  cases hp : s.phase <;> simp only [captureStep, hp, Option.some.injEq, reduceCtorEq] at h
  case capAck => rcases sendThen_cases h with ⟨-, rfl⟩ | ⟨-, rfl⟩ <;> rfl
  all_goals
    cases h
    rfl

/-! ## The polls and what ends them -/

/-- The wait ends on a stop byte or on a fill-complete level (R127, R128). -/
theorem captureEnds_eq_true_iff {o : Option Byte} {v : Level} :
    captureEnds o v = true ↔ o = some 0x6E#8 ∨ v = .on := by
  simp [captureEnds, isStop]

theorem captureEnds_eq_false_iff {o : Option Byte} {v : Level} :
    captureEnds o v = false ↔ o ≠ some 0x6E#8 ∧ v = .off := by
  cases v <;> simp [captureEnds, isStop]

/-- The two events of one poll (R126, R127). -/
def pollEvents (q : Option Byte × Level) : List Event := [.rxT q.1, .read .fill q.2]

/-- An event that gives the wait no reason to end: neither a received stop byte nor a fill level read as `ON`. -/
def Event.noSignal (e : Event) : Prop := e ≠ .rxT (some 0x6E#8) ∧ e ≠ .read .fill .on

theorem captureEnds_of_noSignal {q : Option Byte × Level} (h : ∀ e ∈ pollEvents q, e.noSignal) :
    captureEnds q.1 q.2 = false := by
  obtain ⟨⟨hrx, -⟩, -, hfill⟩ : (Event.rxT q.1).noSignal ∧ (Event.read .fill q.2).noSignal := by
    simpa [pollEvents] using h
  refine captureEnds_eq_false_iff.mpr ⟨fun heq => hrx (by rw [heq]), ?_⟩
  cases hv : q.2 with
  | on => exact absurd (by rw [hv]) hfill
  | off => rfl

/-- The polls are receives and fill reads and nothing else. -/
theorem mem_polls {e : Event} {qs : List (Option Byte × Level)} (h : e ∈ qs.flatMap pollEvents) :
    (∃ o, e = .rxT o) ∨ ∃ v, e = .read .fill v := by
  obtain ⟨q, -, he⟩ := List.mem_flatMap.mp h
  simp only [pollEvents, List.mem_cons, List.not_mem_nil, or_false] at he
  exact he.imp (⟨q.1, ·⟩) (⟨q.2, ·⟩)

/-- The events since `CAP_POLL_RX` was first reached, while no poll has ended the wait: whole polls, and at
`CAP_POLL_FILL` the receive of the one under way, whose result is in `polled`. -/
inductive Waiting (p : Phase) (polled : Option Byte) (news : List Event) : Prop where
  | pollRx (qs : List (Option Byte × Level)) (hp : p = .capPollRx) (hqs : ∀ q ∈ qs, captureEnds q.1 q.2 = false)
      (hnews : news = qs.flatMap pollEvents)
  | pollFill (qs : List (Option Byte × Level)) (hp : p = .capPollFill) (hqs : ∀ q ∈ qs, captureEnds q.1 q.2 = false)
      (hnews : news = qs.flatMap pollEvents ++ [.rxT polled])

/-- The events of a whole wait: polls of which the last, and no other, ends it. -/
def WaitOver (news : List Event) : Prop :=
  ∃ (qs : List (Option Byte × Level)) (q : Option Byte × Level), (∀ q ∈ qs, captureEnds q.1 q.2 = false) ∧
    captureEnds q.1 q.2 = true ∧ news = (qs ++ [q]).flatMap pollEvents

section

variable {p : Phase} {polled : Option Byte} {news : List Event}

theorem Waiting.phase (h : Waiting p polled news) : p = .capPollRx ∨ p = .capPollFill := by
  cases h with
  | pollRx _ hp => exact .inl hp
  | pollFill _ hp => exact .inr hp

theorem Waiting.activity (h : Waiting p polled news) : p.activity = .capturing := by
  rcases h.phase with rfl | rfl <;> rfl

theorem Waiting.mem {e : Event} (h : Waiting p polled news) (he : e ∈ news) :
    (∃ o, e = .rxT o) ∨ ∃ v, e = .read .fill v := by
  cases h with
  | pollRx qs _ _ hnews => exact mem_polls (hnews ▸ he)
  | pollFill qs _ _ hnews =>
    rw [hnews, List.mem_append, List.mem_singleton] at he
    exact he.elim mem_polls fun he => .inl ⟨polled, he⟩

/-- Nothing is sent in the wait (R132). -/
theorem Waiting.tx_not_mem (h : Waiting p polled news) (b : Byte) : .tx b ∉ news := fun hb => by
  rcases h.mem hb with ⟨o, ho⟩ | ⟨v, hv⟩ <;> contradiction

theorem WaitOver.mem {e : Event} (h : WaitOver news) (he : e ∈ news) :
    (∃ o, e = .rxT o) ∨ ∃ v, e = .read .fill v := by
  obtain ⟨qs, q, -, -, rfl⟩ := h
  exact mem_polls he

/-- A wait that is over has seen a signal. -/
theorem WaitOver.signal (h : WaitOver news) : ∃ e ∈ news, ¬ e.noSignal := by
  obtain ⟨qs, q, -, hends, rfl⟩ := h
  by_contra hnone
  have hq : ∀ e ∈ pollEvents q, e.noSignal := fun e he =>
    not_not.mp fun hsignal => hnone ⟨e, by simp [he], hsignal⟩
  simp [captureEnds_of_noSignal hq] at hends

end

/-- The event of the next turn of `CTRL` in the wait. -/
def State.pollEvent (s : State) : Event :=
  match s.phase with
  | .capPollRx => .rxT s.rx.head?
  | _ => .read .fill (s.levelOf .fill)

/-- A turn of `CTRL` in the wait appends the event of its half of the poll; the wait goes on, or it is over and the
acknowledgment is next (R126, R127). -/
theorem Waiting.after_captureStep {news : List Event} (h : Waiting s.phase s.polled news)
    (hstep : captureStep s = some (.next t)) :
    t.trace = s.trace ++ [s.pollEvent] ∧
      (Waiting t.phase t.polled (news ++ [s.pollEvent]) ∨ t.phase = .capAck ∧ WaitOver (news ++ [s.pollEvent])) := by
  cases h with
  | pollRx qs hp hqs hnews =>
    cases (captureStep_capPollRx hp).symm.trans hstep
    have he : s.pollEvent = .rxT s.rx.head? := by simp only [State.pollEvent, hp]
    exact ⟨by rw [he]; rfl, .inl (.pollFill qs rfl hqs (by rw [hnews, he]; rfl))⟩
  | pollFill qs hp hqs hnews =>
    cases (captureStep_capPollFill hp).symm.trans hstep
    have he : s.pollEvent = .read .fill (s.levelOf .fill) := by simp only [State.pollEvent, hp]
    have hpolls : news ++ [s.pollEvent] = (qs ++ [(s.polled, s.levelOf .fill)]).flatMap pollEvents := by
      simp [hnews, he, pollEvents]
    refine ⟨by rw [he]; rfl, ?_⟩
    cases hends : captureEnds s.polled (s.levelOf .fill) with
    | false =>
      have hqs' : ∀ q ∈ qs ++ [(s.polled, s.levelOf .fill)], captureEnds q.1 q.2 = false := by
        simpa [or_imp, forall_and, hends] using hqs
      exact .inl (.pollRx _ (by simp [capPollFill, hends]) hqs' hpolls)
    | true => exact .inr ⟨by simp [capPollFill, hends], qs, _, hqs, hends, hpolls⟩

/-! ## The events of a capture -/

/-- The line writes of a capture (R122 to R124). -/
def capturePulses (force : Bool) : List Event :=
  [.level .rden .off, .level .trig .on, .level .trig .off] ++
    if force = true then [.level .force .on, .level .force .off] else []

/-- The events since `CAP_RDEN`, phase by phase (R122 to R129): the line writes one by one, the delay, the wait. -/
inductive CaptureNews (force : Bool) (p : Phase) (polled : Option Byte) (news : List Event) : Prop where
  | rden (hp : p = .capRden) (hnews : news = [])
  | trigOn (hp : p = .capTrigOn) (hnews : news = [.level .rden .off])
  | trigOff (hp : p = .capTrigOff) (hnews : news = [.level .rden .off, .level .trig .on])
  | forceOn (hp : p = .capForceOn) (hforce : force = true)
      (hnews : news = [.level .rden .off, .level .trig .on, .level .trig .off])
  | forceOff (hp : p = .capForceOff) (hforce : force = true)
      (hnews : news = [.level .rden .off, .level .trig .on, .level .trig .off, .level .force .on])
  | delay (hp : p = .capDelay) (hnews : news = capturePulses force)
  | wait (polls : List Event) (hwait : Waiting p polled polls)
      (hnews : news = capturePulses force ++ [.delay 10] ++ polls)
  | ack (polls : List Event) (hp : p = .capAck) (hover : WaitOver polls)
      (hnews : news = capturePulses force ++ [.delay 10] ++ polls)

theorem CaptureNews.activity {f : Bool} {p : Phase} {polled : Option Byte} {news : List Event}
    (h : CaptureNews f p polled news) : p.activity = .capturing := by
  cases h with
  | wait _ hwait => exact hwait.activity
  | _ => subst p; rfl

/-- At `CAP_ACK` the wait is over. -/
theorem CaptureNews.at_capAck {f : Bool} {polled : Option Byte} {news : List Event}
    (h : CaptureNews f .capAck polled news) :
    ∃ polls, WaitOver polls ∧ news = capturePulses f ++ [.delay 10] ++ polls := by
  cases h with
  | ack polls _ hover hnews => exact ⟨polls, hover, hnews⟩
  | wait _ hwait => rcases hwait.phase with hp | hp <;> cases hp
  | _ => contradiction

/-- A turn of `CTRL` inside a capture: one more of the capture's events, none in a turn held by a busy link, or the
acknowledgment that ends it. -/
theorem CaptureNews.after_captureStep {news : List Event} (h : CaptureNews s.force s.phase s.polled news)
    (hstep : captureStep s = some (.next t)) :
    (∃ more, t.trace = s.trace ++ more ∧ CaptureNews s.force t.phase t.polled (news ++ more)) ∨
    s.phase = .capAck ∧ t.phase = .dFetch ∧ t.trace = s.trace ++ [.tx 0x43#8] := by
  cases h with
  | wait polls hwait hnews =>
    obtain ⟨htrace, hwait | ⟨hp, hover⟩⟩ := hwait.after_captureStep hstep
    · exact .inl ⟨_, htrace, .wait _ hwait (by rw [hnews, List.append_assoc])⟩
    · exact .inl ⟨_, htrace, .ack _ hp hover (by rw [hnews, List.append_assoc])⟩
  | ack polls hp hover hnews =>
    rcases sendThen_cases (Option.some.inj ((captureStep_capAck hp).symm.trans hstep)) with ⟨-, rfl⟩ | ⟨-, rfl⟩
    · exact .inl ⟨[], by simp, .ack polls hp hover (by simp [hnews])⟩
    · exact .inr ⟨hp, rfl, rfl⟩
  | rden hp hnews =>
    cases (captureStep_capRden hp).symm.trans hstep
    exact .inl ⟨_, rfl, .trigOn rfl (by rw [hnews]; rfl)⟩
  | trigOn hp hnews =>
    cases (captureStep_capTrigOn hp).symm.trans hstep
    exact .inl ⟨_, rfl, .trigOff rfl (by rw [hnews]; rfl)⟩
  | trigOff hp hnews =>
    cases (captureStep_capTrigOff hp).symm.trans hstep
    refine .inl ⟨_, rfl, ?_⟩
    cases hforce : s.force with
    | false => exact .delay rfl (by rw [hnews]; rfl)
    | true => exact .forceOn rfl rfl (by rw [hnews]; rfl)
  | forceOn hp hforce hnews =>
    cases (captureStep_capForceOn hp).symm.trans hstep
    exact .inl ⟨_, rfl, .forceOff rfl hforce (by rw [hnews]; rfl)⟩
  | forceOff hp hforce hnews =>
    cases (captureStep_capForceOff hp).symm.trans hstep
    exact .inl ⟨_, rfl, .delay rfl (by rw [hnews, hforce]; rfl)⟩
  | delay hp hnews =>
    cases (captureStep_capDelay hp).symm.trans hstep
    exact .inl ⟨_, rfl, .wait [] (.pollRx [] rfl (by simp) rfl) (by rw [hnews]; simp)⟩

/-- What a capture that began at `s` has made of the state by `t`. -/
structure CaptureSoFar (s t : State) : Prop where
  force : t.force = s.force
  dev : t.dev = s.dev
  events : ∃ news, t.trace = s.trace ++ news ∧ CaptureNews s.force t.phase t.polled news

/-- Every step inside a capture carries it on, or is the acknowledgment. -/
theorem CaptureSoFar.after_step (h : CaptureSoFar s t) (hstep : step t = .next u) :
    CaptureSoFar s u ∨
    t.phase = .capAck ∧ u.phase = .dFetch ∧ u.trace = t.trace ++ [.tx 0x43#8] ∧ u.dev = t.dev := by
  obtain ⟨hforce, hdev, news, htrace, hnews⟩ := h
  rcases capturing_step_cases hnews.activity hstep with hctrl | ⟨m, -, hmove⟩
  · have hdev' : u.dev = t.dev := captureStep_dev (s := t.popMove) hctrl
    have hforce' : u.force = t.force := captureStep_force (s := t.popMove) hctrl
    rw [← hforce] at hnews
    rcases CaptureNews.after_captureStep (s := t.popMove) hnews hctrl with ⟨more, hmore, hnext⟩ | ⟨hp, hp', htx⟩
    · refine .inl ⟨hforce'.trans hforce, hdev'.trans hdev, news ++ more, ?_, hforce ▸ hnext⟩
      rw [hmore, State.popMove_trace, htrace, List.append_assoc]
    · exact .inr ⟨hp, hp', htx, hdev'⟩
  · obtain ⟨hp, hpolled, hforce', hdev', htrace'⟩ := envMove_keeps hmove
    refine .inl ⟨hforce'.trans hforce, hdev'.trans hdev, news, htrace'.trans htrace, ?_⟩
    rw [hp, hpolled]
    exact hnews

/-- The grammar holds along every path inside a capture, under every interleaving. -/
theorem CaptureSoFar.of_path (hs : s.phase = .capRden) (h : Path State.capturing s t) : CaptureSoFar s t := by
  induction h with
  | here => exact ⟨rfl, rfl, [], by simp, .rden hs rfl⟩
  | more t u _ hstep hu ih =>
    rcases ih.after_step hstep with hsofar | ⟨-, hp, -⟩
    · exact hsofar
    · rw [State.capturing, hp] at hu
      cases hu

/-! ## The line writes of a capture -/

/-- A rising edge is a line write, so the line writes alone decide how many there are. -/
theorem countP_isOn_filter (l : Line) (news : List Event) :
    (news.filter Event.isLineWrite).countP (Event.isOn l) = news.countP (Event.isOn l) := by
  rw [List.countP_filter]
  congr 1
  funext e
  cases e with
  | level m v => simp [Event.isLineWrite]
  | _ => rfl

/-- The wait writes no line (R133). -/
theorem WaitOver.filter_isLineWrite {news : List Event} (h : WaitOver news) : news.filter Event.isLineWrite = [] := by
  refine List.filter_eq_nil_iff.mpr fun e he => ?_
  rcases h.mem he with ⟨o, rfl⟩ | ⟨v, rfl⟩ <;> simp [Event.isLineWrite]

theorem capturePulses_filter_isLineWrite (f : Bool) :
    (capturePulses f).filter Event.isLineWrite = capturePulses f := by
  cases f <;> rfl

/-! ## The wait under a schedule that sends no signal -/

/-- Neither the waiting bytes nor the schedule hold a stop byte, and the fill line is an input that is driven `OFF`
and stays so. -/
structure StaysQuiet (s : State) : Prop where
  fillInput : s.lines.fill.dir = .input
  fillOff : s.extFill = some .off
  noStop : 0x6E#8 ∉ s.rx
  moves : ∀ m ∈ s.sched, m ≠ .hostSend 0x6E#8 ∧ ∀ v, m = .driveFill v → v = some .off

theorem StaysQuiet.popMove (h : StaysQuiet s) : StaysQuiet s.popMove :=
  ⟨h.fillInput, h.fillOff, h.noStop, fun m hm => h.moves m (List.mem_of_mem_tail hm)⟩

theorem StaysQuiet.after_captureStep {polled : Option Byte} {news : List Event} (h : StaysQuiet s)
    (hwait : Waiting s.phase polled news) (hstep : captureStep s = some (.next t)) : StaysQuiet t := by
  rcases hwait.phase with hp | hp
  · cases (captureStep_capPollRx hp).symm.trans hstep
    exact ⟨h.fillInput, h.fillOff, fun hm => h.noStop (List.mem_of_mem_tail hm), h.moves⟩
  · cases (captureStep_capPollFill hp).symm.trans hstep
    exact ⟨h.fillInput, h.fillOff, h.noStop, h.moves⟩

theorem StaysQuiet.after_envMove {m : Move} (h : StaysQuiet s)
    (hm : m ≠ .hostSend 0x6E#8 ∧ ∀ v, m = .driveFill v → v = some .off)
    (hmove : envMove s m = some (.next t)) : StaysQuiet t := by
  obtain ⟨hsend, hdrive⟩ := hm
  cases m <;> simp only [envMove, Option.some.injEq, reduceCtorEq] at hmove
  case hostSend b =>
    cases hostMove_next hmove
    have hb : 0x6E#8 ≠ b := fun hb => hsend (by rw [hb])
    exact ⟨h.fillInput, h.fillOff, by simp [h.noStop, hb], h.moves⟩
  case hostTake =>
    cases hostMove_next hmove
    exact ⟨h.fillInput, h.fillOff, h.noStop, h.moves⟩
  case driveFill v =>
    cases hmove
    exact ⟨h.fillInput, hdrive v rfl, h.noStop, h.moves⟩
  all_goals
    cases hmove
    exact ⟨h.fillInput, h.fillOff, h.noStop, h.moves⟩

/-- Such a state's next poll finds nothing. -/
theorem StaysQuiet.noSignal_pollEvent (h : StaysQuiet s) : s.pollEvent.noSignal := by
  have hrx : s.rx.head? ≠ some 0x6E#8 := fun hhead => h.noStop (List.mem_of_head? hhead)
  have hfill : s.levelOf .fill = .off :=
    (State.levelOf_of_input (l := .fill) h.fillInput).trans (State.ext_fill_of_driven h.fillOff)
  unfold State.pollEvent
  split
  · exact ⟨by simpa using hrx, nofun⟩
  · exact ⟨nofun, by simp [hfill]⟩

/-! ## The wait along a run -/

/-- From `s`, at the first poll, to `t`: still waiting, or a signal was seen. -/
def WaitedOrSignalled (s t : State) : Prop :=
  ∃ news, t.trace = s.trace ++ news ∧ (Waiting t.phase t.polled news ∨ ∃ e ∈ news, ¬ e.noSignal)

/-- From `s` to `t` the wait has gone on, no signal was seen, and none is to come. -/
structure WaitsOn (s t : State) : Prop where
  quiet : StaysQuiet t
  events : ∃ news, t.trace = s.trace ++ news ∧ Waiting t.phase t.polled news ∧ ∀ e ∈ news, e.noSignal

theorem Waiting.start (hp : s.phase = .capPollRx) : Waiting s.phase s.polled [] := .pollRx [] hp (by simp) rfl

theorem WaitedOrSignalled.after_step (h : WaitedOrSignalled s t) (hstep : step t = .next u) :
    WaitedOrSignalled s u := by
  obtain ⟨news, htrace, hwait | ⟨e, he, hsignal⟩⟩ := h
  · rcases capturing_step_cases hwait.activity hstep with hctrl | ⟨m, -, hmove⟩
    · obtain ⟨hpoll, hnext⟩ := Waiting.after_captureStep (s := t.popMove) hwait hctrl
      refine ⟨_, ?_, hnext.imp_right fun hover => hover.2.signal⟩
      rw [hpoll, State.popMove_trace, htrace, List.append_assoc]
    · obtain ⟨hp, hpolled, -, -, htrace'⟩ := envMove_keeps hmove
      refine ⟨news, htrace'.trans htrace, .inl ?_⟩
      rw [hp, hpolled]
      exact hwait
  · obtain ⟨more, hmore⟩ := step_trace_grows hstep
    exact ⟨news ++ more, by rw [hmore, htrace, List.append_assoc], .inr ⟨e, List.mem_append_left _ he, hsignal⟩⟩

theorem WaitsOn.step (h : WaitsOn s t) : ∃ u, step t = .next u ∧ WaitsOn s u := by
  obtain ⟨hquiet, news, htrace, hwait, hnone⟩ := h
  obtain ⟨u, hstep⟩ := capturing_progress hwait.activity
  refine ⟨u, hstep, ?_⟩
  rcases capturing_step_cases hwait.activity hstep with hctrl | ⟨m, hm, hmove⟩
  · obtain ⟨hpoll, hnext⟩ := Waiting.after_captureStep (s := t.popMove) hwait hctrl
    have hnone' : ∀ e ∈ news ++ [t.popMove.pollEvent], e.noSignal := by
      simpa [or_imp, forall_and, hquiet.popMove.noSignal_pollEvent] using hnone
    refine ⟨hquiet.popMove.after_captureStep hwait hctrl, _, ?_, ?_, hnone'⟩
    · rw [hpoll, State.popMove_trace, htrace, List.append_assoc]
    · rcases hnext with hnext | ⟨-, hover⟩
      · exact hnext
      · obtain ⟨e, he, hsignal⟩ := hover.signal
        exact absurd (hnone' e he) hsignal
  · obtain ⟨hp, hpolled, -, -, htrace'⟩ := envMove_keeps hmove
    refine ⟨hquiet.popMove.after_envMove (hquiet.moves m (List.mem_of_head? hm)) hmove, news,
      htrace'.trans htrace, ?_, hnone⟩
    rw [hp, hpolled]
    exact hwait

end

/-- Settles O29: a step inside a capture that leads to `D_FETCH` is the acknowledgment, and before it the capture's
events are those of `CAP_ACK`. -/
theorem captureTraceForm : Obligations.CaptureTraceForm := by
  intro s t u hs hpath hstep hu
  have hsofar := CaptureSoFar.of_path hs hpath
  rcases hsofar.after_step hstep with ⟨-, -, news, -, hnews⟩ | ⟨hp, -, htx, hdev⟩
  · have hcapturing := hnews.activity
    rw [hu] at hcapturing
    cases hcapturing
  · obtain ⟨-, hdev', news, htrace, hnews⟩ := hsofar
    rw [hp] at hnews
    obtain ⟨polls, ⟨waits, last, hwaits, hlast, rfl⟩, rfl⟩ := hnews.at_capAck
    refine ⟨waits, last, ?_, fun q hq => captureEnds_eq_false_iff.mp (hwaits q hq),
      captureEnds_eq_true_iff.mp hlast, hdev.trans hdev'⟩
    rw [htx, htrace]
    simp only [capturePulses, ← List.append_assoc]
    rfl

/-- Settles O30: the line writes of a capture are its pulses, and its rising edges are among them. -/
theorem capturePulseCount : Obligations.CapturePulseCount := by
  intro s t hs ht hpath
  obtain ⟨-, -, news, htrace, hnews⟩ := CaptureSoFar.of_path hs hpath
  rw [ht] at hnews
  obtain ⟨polls, hover, hnews⟩ := hnews.at_capAck
  have hwrites : news.filter Event.isLineWrite = capturePulses s.force := by
    simp [hnews, capturePulses_filter_isLineWrite, hover.filter_isLineWrite, Event.isLineWrite]
  refine ⟨news, htrace, ?_, ?_, hwrites⟩
  · rw [← countP_isOn_filter, hwrites]
    cases s.force <;> rfl
  · rw [← countP_isOn_filter, hwrites]
    cases s.force <;> rfl

/-- Settles O31: the poll, the fill read and the acknowledgment, one after the other; either signal makes the test of
the two results end the wait. -/
theorem ackSameForStopAndFill : Obligations.AckSameForStopAndFill := by
  intro s hsched hp hfill hidle hsignal
  have hends : captureEnds (capPollRx s).polled ((capPollRx s).levelOf .fill) = true :=
    captureEnds_eq_true_iff.mpr (hsignal.imp_right fun hon =>
      (State.levelOf_of_input (s := capPollRx s) (l := .fill) hfill).trans (State.ext_fill_of_driven hon))
  have hpoll : step s = .next (capPollRx s) := step_of_captureStep hsched (captureStep_capPollRx hp)
  have hread : step (capPollRx s) = .next (capPollFill (capPollRx s)) :=
    step_of_captureStep hsched (captureStep_capPollFill rfl)
  have hack : (capPollFill (capPollRx s)).phase = .capAck := by simp [capPollFill, hends]
  have hsend : step (capPollFill (capPollRx s)) =
      .next (((capPollFill (capPollRx s)).send Params.ackByte).goto .dFetch) :=
    (step_of_captureStep (s := capPollFill (capPollRx s)) hsched (captureStep_capAck hack)).trans (sendThen_idle hidle)
  have hrun : run 3 s = .next (((capPollFill (capPollRx s)).send Params.ackByte).goto .dFetch) := by
    simp only [run, hpoll, hread, hsend, onNext_next]
  exact ⟨_, hrun, rfl, rfl, rfl, rfl, rfl⟩

/-- Settles O32: with no signal in the events the run is still waiting, and a wait that can see no signal goes on. -/
theorem captureWaitHasNoTimeout : Obligations.CaptureWaitHasNoTimeout := by
  constructor
  · intro n s t news hp hrun htrace hnone
    obtain ⟨news', htrace', hwait⟩ : WaitedOrSignalled s t :=
      run_keeps (fun _ _ => WaitedOrSignalled.after_step) ⟨[], by simp, .inl (.start hp)⟩ hrun
    obtain rfl : news = news' := List.append_cancel_left (htrace.symm.trans htrace')
    rcases hwait with hwait | ⟨e, he, hsignal⟩
    · exact ⟨hwait.phase, hwait.tx_not_mem, capturing_progress hwait.activity⟩
    · exact absurd (hnone e he) hsignal
  · intro s hp hfill hoff hrx hmoves n
    have hstart : WaitsOn s s := ⟨⟨hfill, hoff, hrx, hmoves⟩, [], by simp, .start hp, by simp⟩
    obtain ⟨t, hrun, -, news, htrace, hwait, -⟩ := run_exists (fun _ => WaitsOn.step) hstart n
    exact ⟨t, news, hrun, htrace, hwait.phase, hwait.tx_not_mem⟩

end Sys2Proof.Machine

/-! SUPPORT. Proofs of the statements on the sample transfer (42_sample_transfer.md): what a step inside a transfer can
be, the events of a session as whole rounds and the part of one under way, and the count of the turns still to come. -/

namespace Sys2Proof.Machine

section

variable {s t u : State}

/-! ## `CTRL`'s step inside a transfer -/

/-- The two tests that let a transfer go round once more (R142). -/
theorem transferGoesOn_eq_true_iff {o : Option Byte} {c : Ctr} :
    transferGoesOn o c = true ↔ o ≠ some 0x6E#8 ∧ c.toNat < 65535 := by
  simp [transferGoesOn, isStop, Params.lt_maxSamples]

theorem transferGoesOn_eq_false_iff {o : Option Byte} {c : Ctr} :
    transferGoesOn o c = false ↔ o = some 0x6E#8 ∨ c.toNat = 65535 := by
  have hc : c.toNat < 65536 := c.isLt
  rw [← Bool.not_eq_true, transferGoesOn_eq_true_iff, not_and_or, not_not]
  exact or_congr_right (by omega)

/-- Every next state of a turn of `CTRL` inside a transfer (R141 to R148): the poll split by its tests, the send by
whether the link holds it. -/
inductive TransferStep (s : State) : State → Prop where
  | rdenOn (hp : s.phase = .xferRdenOn) : TransferStep s (((s.setLevel .rden .on).setCtr 0#_).goto .xferPoll)
  | pollOn (hp : s.phase = .xferPoll) (hstop : s.rx.head? ≠ some 0x6E#8) (hbound : s.ctr.toNat < 65535) :
      TransferStep s ((s.recvTry.2.setPolled s.rx.head?).goto .xferClkOn)
  | pollEnd (hp : s.phase = .xferPoll) (hend : s.rx.head? = some 0x6E#8 ∨ s.ctr.toNat = 65535) :
      TransferStep s ((s.recvTry.2.setPolled s.rx.head?).goto .xferRdenOff)
  | clkOn (hp : s.phase = .xferClkOn) : TransferStep s ((s.setLevel .sclk .on).goto .xferClkOff)
  | clkOff (hp : s.phase = .xferClkOff) : TransferStep s ((s.setLevel .sclk .off).goto .xferRead)
  | read (hp : s.phase = .xferRead) : TransferStep s ((s.readBus.2.setSample s.busSample).goto .xferSend)
  | held (hp : s.phase = .xferSend) (hbusy : s.link.sending = true) : TransferStep s s.finishSending
  | send (hp : s.phase = .xferSend) (hidle : s.link.sending = false) :
      TransferStep s (((s.send s.sample).setCtr (s.ctr + 1#_)).goto .xferPoll)
  | rdenOff (hp : s.phase = .xferRdenOff) : TransferStep s ((s.setLevel .rden .off).goto .dFetch)

/-- `XFER_POLL` in its two outcomes (R142). -/
theorem xferPoll_transferStep (hp : s.phase = .xferPoll) : TransferStep s (xferPoll s) := by
  cases hgo : transferGoesOn s.rx.head? s.ctr with
  | true =>
    obtain ⟨hstop, hbound⟩ := transferGoesOn_eq_true_iff.mp hgo
    simpa [xferPoll, hgo] using TransferStep.pollOn hp hstop hbound
  | false => simpa [xferPoll, hgo] using TransferStep.pollEnd hp (transferGoesOn_eq_false_iff.mp hgo)

/-- Inside a transfer SEND always has a next state. -/
theorem execSend_transferStep (hx : s.transferring) : ∃ t, execSend s = .next t ∧ TransferStep s t := by
  cases hp : s.phase <;> simp only [State.transferring, Phase.activity, hp, reduceCtorEq] at hx <;>
    simp only [execSend, hp]
  case xferRdenOn => exact ⟨_, rfl, .rdenOn hp⟩
  case xferPoll => exact ⟨_, rfl, xferPoll_transferStep hp⟩
  case xferClkOn => exact ⟨_, rfl, .clkOn hp⟩
  case xferClkOff => exact ⟨_, rfl, .clkOff hp⟩
  case xferRead => exact ⟨_, rfl, .read hp⟩
  case xferSend =>
    cases hlink : s.link.sending with
    | true => exact ⟨_, sendThen_busy hlink, .held hp hlink⟩
    | false => exact ⟨_, sendThen_idle hlink, .send hp hlink⟩
  case xferRdenOff => exact ⟨_, rfl, .rdenOff hp⟩

/-- A session goes on or is back at `D_FETCH` (R148). -/
theorem TransferStep.phase (h : TransferStep s t) : t.transferring ∨ t.phase = .dFetch := by
  cases h with
  | rdenOff => exact .inr rfl
  | held hp => exact .inl (by simp [State.transferring, Phase.activity, hp])
  | _ => exact .inl rfl

theorem TransferStep.dev (h : TransferStep s t) : t.dev = s.dev := by cases h <;> rfl

/-- Only the poll takes from `rx`, and at most one byte (R142). -/
theorem TransferStep.rx (h : TransferStep s t) : t.rx = s.rx ∨ t.rx = s.rx.tail := by
  cases h with
  | pollOn | pollEnd => exact .inr rfl
  | _ => exact .inl rfl

/-- A turn of `CTRL` leaves the schedule as it is and never makes the link busy (log 25). -/
theorem TransferStep.sched_link (h : TransferStep s t) :
    t.sched = s.sched ∧ t.link.sending.toNat ≤ s.link.sending.toNat := by
  cases h with
  | held => exact ⟨rfl, Nat.zero_le _⟩
  | _ => exact ⟨rfl, le_rfl⟩

/-! ## One step inside a transfer -/

/-- A move of another agent is only ever refused during start-up (R214). -/
theorem envMove_next_of_ready {m : Move} {r : Result} (hboot : s.booting = false) (h : envMove s m = some r) :
    ∃ t, r = .next t := by
  cases r with
  | next t => exact ⟨t, rfl⟩
  | fault r => cases r
  | refused r => exact absurd (envMove_refused h).2 (by simp [hboot])

theorem booting_of_transferring (hx : s.transferring) : s.booting = false := by
  cases hp : s.phase <;> simp_all [State.transferring, Phase.activity, State.booting]

/-- Inside a transfer no step is refused: it is a turn of SEND, or a move of another agent. -/
theorem transferring_step (hx : s.transferring) :
    ∃ t, step s = .next t ∧
      (TransferStep s.popMove t ∨ ∃ m, s.sched.head? = some m ∧ envMove s.popMove m = some (.next t)) := by
  rcases step_cases s with ⟨-, hctrl⟩ | ⟨m, hm, -, hmove⟩
  · obtain ⟨t, hexec, ht⟩ := execSend_transferStep (s := s.popMove) hx
    exact ⟨t, hctrl.trans ((ctrl_send (s := s.popMove) hx).trans hexec), .inl ht⟩
  · obtain ⟨t, ht⟩ := envMove_next_of_ready (booting_of_transferring (s := s.popMove) hx) hmove
    exact ⟨t, ht, .inr ⟨m, hm, ht ▸ hmove⟩⟩

/-- When only `CTRL` moves, the step inside a transfer is SEND's. -/
theorem step_eq_execSend (hs : s.sched = []) (hx : s.transferring) : step s = execSend s :=
  (step_nil hs).trans (ctrl_send hx)

/-! ## The events of a session -/

/-- The five events of one round: poll, pulse, read, send (R142 to R145). -/
def roundEvents (q : Option Byte × Byte) : List Event :=
  [.rxT q.1, .level .sclk .on, .level .sclk .off, .bus q.2, .tx q.2]

/-- The events after the last whole round, by the phase they have led to; `D_FETCH` is the session's end. -/
def State.sinceRounds (s : State) : List Event :=
  match s.phase with
  | .xferClkOn => [.rxT s.polled]
  | .xferClkOff => [.rxT s.polled, .level .sclk .on]
  | .xferRead => [.rxT s.polled, .level .sclk .on, .level .sclk .off]
  | .xferSend => [.rxT s.polled, .level .sclk .on, .level .sclk .off, .bus s.sample]
  | .xferRdenOff => [.rxT s.polled]
  | .dFetch => [.rxT s.polled, .level .rden .off]
  | _ => []

/-- What the tests of the last poll have established, by the phase they have led to (R142). -/
def State.tested (s : State) : Prop :=
  match s.phase with
  | .xferClkOn | .xferClkOff | .xferRead | .xferSend => s.polled ≠ some 0x6E#8 ∧ s.ctr.toNat < 65535
  | .xferRdenOff | .dFetch => s.polled = some 0x6E#8 ∨ s.ctr.toNat = 65535
  | _ => True

/-- From a trace `old`, read-enable was raised and the whole rounds `qs` were made, and then what `sinceRounds` says. -/
structure Rounds (old : List Event) (qs : List (Option Byte × Byte)) (t : State) : Prop where
  noStop : ∀ q ∈ qs, q.1 ≠ some 0x6E#8
  count : t.ctr.toNat = qs.length
  tested : t.tested
  trace : t.trace = old ++ [.level .rden .on] ++ qs.flatMap roundEvents ++ t.sinceRounds

/-- A session whose trace began as `old`: nothing yet at `XFER_RDEN_ON`, rounds from then on. -/
structure TransferNews (old : List Event) (t : State) : Prop where
  start : t.phase = .xferRdenOn → t.trace = old
  rounds : t.phase ≠ .xferRdenOn → ∃ qs, Rounds old qs t

section

variable {old : List Event} {qs : List (Option Byte × Byte)}

/-- The grammar reads four registers and the trace, so what leaves them leaves it. -/
theorem TransferNews.of_same (h : TransferNews old s) (hp : t.phase = s.phase) (hpolled : t.polled = s.polled)
    (hsample : t.sample = s.sample) (hctr : t.ctr = s.ctr) (htrace : t.trace = s.trace) : TransferNews old t := by
  have hsince : t.sinceRounds = s.sinceRounds := by simp only [State.sinceRounds, hp, hpolled, hsample]
  have htested : t.tested = s.tested := by simp only [State.tested, hp, hpolled, hctr]
  refine ⟨fun h0 => htrace.trans (h.start (hp ▸ h0)), fun h0 => ?_⟩
  obtain ⟨qs, hnoStop, hcount, hok, hnews⟩ := h.rounds (hp ▸ h0)
  exact ⟨qs, hnoStop, hctr ▸ hcount, htested ▸ hok, by rw [htrace, hsince, hnews]⟩

/-- One more event of the round under way. -/
theorem Rounds.extend (h : Rounds old qs s) {e : Event} (hctr : t.ctr = s.ctr) (htrace : t.trace = s.trace ++ [e])
    (hsince : t.sinceRounds = s.sinceRounds ++ [e]) (htested : s.tested → t.tested) : Rounds old qs t :=
  ⟨h.noStop, hctr ▸ h.count, htested h.tested, by rw [htrace, h.trace, hsince, List.append_assoc _ _ [e]]⟩

/-- The send makes the round under way a whole one, and the counter counts it (R145, R146). -/
theorem Rounds.after_send (h : Rounds old qs s) (hp : s.phase = .xferSend) :
    Rounds old (qs ++ [(s.polled, s.sample)]) (((s.send s.sample).setCtr (s.ctr + 1#_)).goto .xferPoll) := by
  obtain ⟨hnoStop, hcount, htested, htrace⟩ := h
  obtain ⟨hstop, hbound⟩ : s.polled ≠ some 0x6E#8 ∧ s.ctr.toNat < 65535 := by simpa [State.tested, hp] using htested
  refine ⟨by simpa [or_imp, forall_and, hstop] using hnoStop, ?_, trivial, ?_⟩
  · simpa [hcount] using Params.toNat_succ s.ctr hbound
  · simp [htrace, State.sinceRounds, hp, roundEvents]

/-- Every turn of `CTRL` inside a transfer carries the session's events on. -/
theorem TransferNews.after_transferStep (h : TransferNews old s) (hstep : TransferStep s t) : TransferNews old t := by
  have hrounds {p : Phase} (hp : s.phase = p) (hne : p ≠ .xferRdenOn) : ∃ qs, Rounds old qs s :=
    h.rounds (hp ▸ hne)
  cases hstep with
  | rdenOn hp => exact ⟨nofun, fun _ => ⟨[], by simp, rfl, trivial, by simp [State.sinceRounds, h.start hp]⟩⟩
  | held => exact h.of_same rfl rfl rfl rfl rfl
  | send hp =>
    obtain ⟨qs, hqs⟩ := hrounds hp nofun
    exact ⟨nofun, fun _ => ⟨_, hqs.after_send hp⟩⟩
  | pollOn hp hstop hbound =>
    obtain ⟨qs, hqs⟩ := hrounds hp nofun
    exact ⟨nofun, fun _ => ⟨qs, hqs.extend rfl rfl (by simp [State.sinceRounds, hp]) fun _ => ⟨hstop, hbound⟩⟩⟩
  | pollEnd hp hend =>
    obtain ⟨qs, hqs⟩ := hrounds hp nofun
    exact ⟨nofun, fun _ => ⟨qs, hqs.extend rfl rfl (by simp [State.sinceRounds, hp]) fun _ => hend⟩⟩
  | clkOn hp | clkOff hp | read hp | rdenOff hp =>
    obtain ⟨qs, hqs⟩ := hrounds hp nofun
    exact ⟨nofun, fun _ => ⟨qs, hqs.extend rfl rfl (by simp [State.sinceRounds, hp]) (by simp [State.tested, hp])⟩⟩

/-- So does every step inside a transfer, whoever moves, and `DeviceState` stays as it is (R150). -/
theorem TransferNews.after_step (h : TransferNews old s) (hx : s.transferring) (hstep : step s = .next t) :
    TransferNews old t ∧ t.dev = s.dev := by
  obtain ⟨t', ht', hctrl | ⟨m, -, hmove⟩⟩ := transferring_step hx <;> cases hstep.symm.trans ht'
  · have hpop : TransferNews old s.popMove := h.of_same rfl rfl rfl rfl rfl
    exact ⟨hpop.after_transferStep hctrl, hctrl.dev⟩
  · rw [(envMove_frame hmove).1]
    exact ⟨h.of_same rfl rfl rfl rfl rfl, rfl⟩

/-- What a predicate says of every whole round it counts once. -/
theorem countP_rounds {p : Event → Bool} (hp : ∀ q, (roundEvents q).countP p = 1)
    (qs : List (Option Byte × Byte)) : (qs.flatMap roundEvents).countP p = qs.length := by
  induction qs with
  | nil => rfl
  | cons q qs ih => rw [List.flatMap_cons, List.countP_append, hp, ih, List.length_cons, Nat.add_comm]

/-- The news since `old`, counted: the first write is neither a pulse, a poll nor a send. -/
theorem Rounds.counts (h : Rounds old qs t) :
    ∃ news, t.trace = old ++ news ∧
      ∀ p : Event → Bool, p (.level .rden .on) = false → (∀ q, (roundEvents q).countP p = 1) →
        news.countP p = t.ctr.toNat + t.sinceRounds.countP p := by
  refine ⟨[.level .rden .on] ++ qs.flatMap roundEvents ++ t.sinceRounds, ?_, fun p hrden hp => ?_⟩
  · simp only [h.trace, List.append_assoc]
  · simp [countP_rounds hp, hrden, h.count]

end

/-- The grammar holds along every path inside a transfer, and `DeviceState` is as it was. -/
theorem TransferNews.of_path (hs : s.phase = .xferRdenOn) (h : Path State.transferring s t) :
    TransferNews s.trace t ∧ t.transferring ∧ t.dev = s.dev := by
  induction h with
  | here hx => exact ⟨⟨fun _ => rfl, fun hne => absurd hs hne⟩, hx, rfl⟩
  | more t u _ hstep hu ih =>
    obtain ⟨hnews, hx, hdev⟩ := ih
    obtain ⟨hnews', hdev'⟩ := hnews.after_step hx hstep
    exact ⟨hnews', hu, hdev'.trans hdev⟩

/-! ## The turns still to come -/

/-- How many turns of `CTRL` a session with no stop byte has left, held ones aside: five a round (R142 to R145). -/
def State.turnsLeft (s : State) : Nat :=
  match s.phase with
  | .xferRdenOn => 5 * 65535 + 3
  | .xferPoll => 5 * (65535 - s.ctr.toNat) + 2
  | .xferClkOn => 5 * (65535 - (s.ctr + 1#_).toNat) + 6
  | .xferClkOff => 5 * (65535 - (s.ctr + 1#_).toNat) + 5
  | .xferRead => 5 * (65535 - (s.ctr + 1#_).toNat) + 4
  | .xferSend => 5 * (65535 - (s.ctr + 1#_).toNat) + 3
  | .xferRdenOff => 1
  | _ => 0

/-- A turn of `CTRL` takes one off the count, unless a stop byte ends the session sooner or the link holds it. -/
theorem TransferStep.turnsLeft (h : TransferStep s t) :
    t.turnsLeft + 1 = s.turnsLeft ∨ s.rx.head? = some 0x6E#8 ∧ t.turnsLeft + 1 ≤ s.turnsLeft ∨
      s.link.sending = true ∧ t = s.finishSending := by
  cases h with
  | held _ hbusy => exact .inr (.inr ⟨hbusy, rfl⟩)
  | pollEnd hp hend =>
    rcases hend with hstop | hfull
    · exact .inr (.inl ⟨hstop, by simp [State.turnsLeft, hp]⟩)
    · exact .inl (by simp [State.turnsLeft, hp, hfull])
  | pollOn hp _ hbound =>
    have hsucc := Params.toNat_succ s.ctr hbound
    refine .inl ?_
    simp only [State.turnsLeft, hp, State.goto_phase, State.goto_ctr, State.setPolled_ctr, State.recvTry_ctr]
    omega
  | rdenOn hp | clkOn hp | clkOff hp | read hp | send hp | rdenOff hp =>
    exact .inl (by simp [State.turnsLeft, hp])

/-- A bound on the turns still to come under the schedule at hand: a scheduled move takes a turn and may make the link
busy for one more, and so may the link as it is (R56). -/
def State.fuel (s : State) : Nat := s.turnsLeft + 2 * s.sched.length + s.link.sending.toNat

theorem TransferStep.fuel_lt (h : TransferStep s t) : t.fuel < s.fuel := by
  obtain ⟨hsched, hlink⟩ := h.sched_link
  rw [State.fuel, State.fuel, hsched]
  rcases h.turnsLeft with hturn | ⟨-, hturn⟩ | ⟨hbusy, rfl⟩
  · omega
  · omega
  · have hheld : s.finishSending.turnsLeft = s.turnsLeft := rfl
    simp [hheld, hbusy]

/-- A move of another agent uses up an entry of the schedule, and at worst makes the link busy. -/
theorem fuel_lt_of_envMove {m : Move} (hm : s.sched.head? = some m) (h : envMove s.popMove m = some (.next t)) :
    t.fuel < s.fuel := by
  obtain ⟨rest, hsched⟩ : ∃ rest, s.sched = m :: rest := List.head?_eq_some_iff.mp hm
  have hturns : t.turnsLeft = s.turnsLeft := by rw [(envMove_frame h).1]; rfl
  have hrest : t.sched = rest := by rw [(envMove_frame h).1]; simp [hsched]
  have hlink : t.link.sending.toNat ≤ 1 := Bool.toNat_le _
  simp only [State.fuel, hturns, hrest, hsched, List.length_cons]
  omega

/-- After `k` steps from `s` the session is at `t`, and no more than the fuel of `s` has been or will be used. -/
structure Closing (s : State) (k : Nat) (t : State) : Prop where
  inside : t.transferring ∨ t.phase = .dFetch
  bound : k + t.fuel ≤ s.fuel

/-- Every step inside a transfer brings its end nearer, whoever moves. -/
theorem Closing.after_step {k : Nat} (h : Closing s k t) (hx : t.transferring) :
    ∃ u, step t = .next u ∧ Closing s (k + 1) u ∧ u.fuel < t.fuel := by
  have hbound := h.bound
  obtain ⟨u, hstep, hctrl | ⟨m, hm, hmove⟩⟩ := transferring_step hx
  · have hpop : t.popMove.fuel ≤ t.fuel := by
      have hturns : t.popMove.turnsLeft = t.turnsLeft := rfl
      simp only [State.fuel, hturns, State.popMove_sched, State.popMove_link, List.length_tail]
      omega
    have hlt : u.fuel < t.fuel := hctrl.fuel_lt.trans_le hpop
    exact ⟨u, hstep, ⟨hctrl.phase, by omega⟩, hlt⟩
  · have hp : u.phase = t.phase := (envMove_keeps hmove).1
    have hlt : u.fuel < t.fuel := fuel_lt_of_envMove hm hmove
    exact ⟨u, hstep, ⟨.inl (by rw [State.transferring, hp]; exact hx), by omega⟩, hlt⟩

theorem turnsLeft_le (s : State) : s.turnsLeft ≤ 5 * 65535 + 6 := by
  unfold State.turnsLeft
  split <;> omega

/-- The packaged induction for runs to an end: where every step short of `Q` makes `μ` smaller, `Q` is reached. The
invariant may speak of how many steps were made. -/
theorem run_until {P : Nat → State → Prop} {Q : State → Prop} (μ : State → Nat)
    (hstep : ∀ k t, P k t → ¬ Q t → ∃ u, step t = .next u ∧ P (k + 1) u ∧ μ u < μ t) {k : Nat} (hs : P k s) :
    ∃ n t, run n s = .next t ∧ P (k + n) t ∧ Q t := by
  induction hμ : μ s using Nat.strong_induction_on generalizing k s with
  | _ m ih =>
    by_cases hQ : Q s
    · exact ⟨0, s, rfl, hs, hQ⟩
    · obtain ⟨u, hu, hP, hlt⟩ := hstep k s hs hQ
      obtain ⟨n, t, hrun, ht, hQt⟩ := ih _ (hμ ▸ hlt) hP rfl
      exact ⟨n + 1, t, by rw [run_succ, hu, onNext_next, hrun], by rwa [Nat.add_right_comm] at ht, hQt⟩

/-! ## A session left alone -/

/-- From `s`, at `XFER_RDEN_ON`, `k` turns of `CTRL` and no other move have led to `t`, with no stop byte waiting and
the link free: the session can end only at the bound, and what was sent still stands in `tx`. -/
structure LeftAlone (s : State) (k : Nat) (t : State) : Prop where
  inside : t.transferring ∨ t.phase = .dFetch
  news : TransferNews s.trace t
  sched : t.sched = []
  noStop : 0x6E#8 ∉ t.rx
  idle : t.link.sending = false
  full : t.phase = .xferRdenOff ∨ t.phase = .dFetch → t.ctr.toNat = 65535
  sent : ∃ bytes, t.tx = s.tx ++ bytes ∧ bytes.length = if t.phase = .xferRdenOn then 0 else t.ctr.toNat
  turns : k + t.turnsLeft = s.turnsLeft

theorem LeftAlone.start (hsched : s.sched = []) (hp : s.phase = .xferRdenOn) (hrx : 0x6E#8 ∉ s.rx)
    (hidle : s.link.sending = false) : LeftAlone s 0 s where
  inside := .inl (by simp [State.transferring, Phase.activity, hp])
  news := ⟨fun _ => rfl, fun hne => absurd hp hne⟩
  sched := hsched
  noStop := hrx
  idle := hidle
  full := by simp [hp]
  sent := ⟨[], by simp, by simp [hp]⟩
  turns := Nat.zero_add _

section

variable {k : Nat}

/-- Without a stop byte only the bound makes the poll end the session (R142, R147). -/
theorem LeftAlone.full_after (h : LeftAlone s k t) (hstep : TransferStep t u) :
    u.phase = .xferRdenOff ∨ u.phase = .dFetch → u.ctr.toNat = 65535 := by
  cases hstep with
  | pollEnd _ hend => exact fun _ => hend.resolve_left fun hstop => h.noStop (List.mem_of_head? hstop)
  | rdenOff hp => exact fun _ => h.full (.inl hp)
  | held => exact h.full
  | _ => simp

/-- The counter counts the bytes sent (R146). -/
theorem LeftAlone.sent_after (h : LeftAlone s k t) (hstep : TransferStep t u) :
    ∃ bytes, u.tx = s.tx ++ bytes ∧ bytes.length = if u.phase = .xferRdenOn then 0 else u.ctr.toNat := by
  obtain ⟨bytes, htx, hlen⟩ := h.sent
  cases hstep with
  | send hp =>
    obtain ⟨qs, hqs⟩ := h.news.rounds (by simp [hp])
    obtain ⟨-, hbound⟩ : t.polled ≠ some 0x6E#8 ∧ t.ctr.toNat < 65535 := by simpa [State.tested, hp] using hqs.tested
    refine ⟨bytes ++ [t.sample], by simp [htx], ?_⟩
    simpa [hp, hlen] using (Params.toNat_succ t.ctr hbound).symm
  | held => exact ⟨bytes, htx, hlen⟩
  | rdenOn hp | pollOn hp | pollEnd hp | clkOn hp | clkOff hp | read hp | rdenOff hp =>
    exact ⟨bytes, htx, by simpa [hp] using hlen⟩

/-- Each of its steps takes exactly one off the count of turns. -/
theorem LeftAlone.turns_after (h : LeftAlone s k t) (hstep : TransferStep t u) : u.turnsLeft + 1 = t.turnsLeft := by
  rcases hstep.turnsLeft with hturn | ⟨hstop, -⟩ | ⟨hbusy, -⟩
  · exact hturn
  · exact absurd (List.mem_of_head? hstop) h.noStop
  · simp [h.idle] at hbusy

theorem LeftAlone.after_step (h : LeftAlone s k t) (hx : t.transferring) :
    ∃ u, step t = .next u ∧ LeftAlone s (k + 1) u ∧ u.turnsLeft < t.turnsLeft := by
  obtain ⟨u, hexec, hctrl⟩ := execSend_transferStep hx
  obtain ⟨hsched, hlink⟩ := hctrl.sched_link
  have hturn := h.turns_after hctrl
  have hturns := h.turns
  refine ⟨u, (step_eq_execSend h.sched hx).trans hexec, ?_, by omega⟩
  exact {
    inside := hctrl.phase
    news := h.news.after_transferStep hctrl
    sched := hsched.trans h.sched
    noStop := fun hm => h.noStop (hctrl.rx.elim (fun hrx => hrx ▸ hm) fun hrx => List.mem_of_mem_tail (hrx ▸ hm))
    idle := by simpa [h.idle] using hlink
    full := h.full_after hctrl
    sent := h.sent_after hctrl
    turns := by omega }

end

/-- It is at its end after just as many turns as the count says. -/
theorem LeftAlone.runs_to_end (h : LeftAlone s 0 s) :
    ∃ t, run s.turnsLeft s = .next t ∧ LeftAlone s s.turnsLeft t ∧ t.phase = .dFetch := by
  obtain ⟨n, t, hrun, ht, hp⟩ := run_until (Q := (·.phase = .dFetch)) State.turnsLeft
    (fun _ _ hu hp => hu.after_step (hu.inside.resolve_right hp)) h
  have hend : t.turnsLeft = 0 := by simp only [State.turnsLeft, hp]
  have hn : n = s.turnsLeft := by
    have hturns := ht.turns
    omega
  rw [Nat.zero_add] at ht
  exact ⟨t, hn ▸ hrun, hn ▸ ht, hp⟩

end

/-- Settles O33: the grammar at `D_FETCH`, which the step that leaves the session still keeps. -/
theorem transferTraceForm : Obligations.TransferTraceForm := by
  intro s t u hs hpath hstep hu
  obtain ⟨hnews, hx, hdev⟩ := TransferNews.of_path hs hpath
  obtain ⟨hnews', hdev'⟩ := hnews.after_step hx hstep
  obtain ⟨qs, hnoStop, hcount, htested, htrace⟩ := hnews'.rounds (by simp [hu])
  have hend : u.polled = some 0x6E#8 ∨ u.ctr.toNat = 65535 := by simpa [State.tested, hu] using htested
  have hbound : u.ctr.toNat < 65536 := u.ctr.isLt
  refine ⟨qs, u.polled, ?_, hnoStop, hcount, by omega, hcount ▸ hend, hdev'.trans hdev⟩
  rw [htrace, State.sinceRounds, hu]
  rfl

/-- Settles O34: every whole round has one pulse and one send, and the round under way at most its pulse. -/
theorem pulsesPacedByCounter : Obligations.PulsesPacedByCounter := by
  intro s t hs ht hpath
  obtain ⟨hnews, hx, -⟩ := TransferNews.of_path hs hpath
  obtain ⟨qs, hqs⟩ := hnews.rounds ht
  obtain ⟨news, htrace, hcounts⟩ := hqs.counts
  refine ⟨news, htrace, ?_⟩
  rw [hcounts (Event.isOn .sclk) rfl fun _ => rfl, hcounts _ (by simp) (by simp [roundEvents])]
  cases hp : t.phase <;> simp only [State.transferring, Phase.activity, hp, reduceCtorEq] at hx <;>
    simp [State.sinceRounds, hp, Event.isOn]

/-- Settles O35: left alone, a session runs down its count of turns and ends at the bound. -/
theorem fullSessionSends65535 : Obligations.FullSessionSends65535 := by
  intro s hsched hp hrx hidle
  obtain ⟨t, hrun, ht, hpt⟩ := (LeftAlone.start hsched hp hrx hidle).runs_to_end
  have hturns : s.turnsLeft = 5 * 65535 + 3 := by simp only [State.turnsLeft, hp]
  have hfull : t.ctr.toNat = 65535 := ht.full (.inr hpt)
  obtain ⟨bytes, htx, hlen⟩ := ht.sent
  obtain ⟨qs, hqs⟩ := ht.news.rounds (by simp [hpt])
  obtain ⟨news, htrace, hcounts⟩ := hqs.counts
  refine ⟨t, news, bytes, hturns ▸ hrun, hpt, BitVec.eq_of_toNat_eq hfull, htrace, htx, ?_, ?_, ?_⟩
  · simpa [hpt, hfull] using hlen
  · rw [hcounts _ rfl fun _ => rfl, hfull]
    simp [State.sinceRounds, hpt, Event.isOn]
  · rw [hcounts _ rfl fun _ => rfl, hfull]
    simp [State.sinceRounds, hpt, List.countP_cons, Event.isPoll]

/-- Settles O36: inside a transfer every step lowers a bound on the turns still to come. -/
theorem everySessionEnds : Obligations.EverySessionEnds := by
  intro s hx
  obtain ⟨n, t, hrun, ht, hp⟩ := run_until (Q := (·.phase = .dFetch)) State.fuel
    (fun _ _ hu hp => hu.after_step (hu.inside.resolve_right hp)) (Closing.mk (.inl hx) (Nat.zero_add _).le)
  have hbound := ht.bound
  have hturns := turnsLeft_le s
  have hlink : s.link.sending.toNat ≤ 1 := Bool.toNat_le _
  rw [State.fuel, State.fuel] at hbound
  exact ⟨n, t, by omega, hrun, hp⟩

/-- Settles O37: the poll takes the stop byte, its test ends the loop, and the one step left lowers read-enable. -/
theorem stopEndsTransferAtBoundary : Obligations.StopEndsTransferAtBoundary := by
  intro s rest hsched hp hrx
  have hend : transferGoesOn s.rx.head? s.ctr = false := transferGoesOn_eq_false_iff.mpr (.inl (by rw [hrx]; rfl))
  have hoff : (xferPoll s).phase = .xferRdenOff := by simp [xferPoll, hend]
  have hpoll : step s = .next (xferPoll s) :=
    (step_eq_execSend hsched (by simp [State.transferring, Phase.activity, hp])).trans (by simp only [execSend, hp])
  have hrden : step (xferPoll s) = .next (((xferPoll s).setLevel .rden .off).goto .dFetch) :=
    (step_eq_execSend (s := xferPoll s) hsched (by simp [State.transferring, Phase.activity, hoff])).trans
      (by simp only [execSend, hoff])
  have hrun : run 2 s = .next (((xferPoll s).setLevel .rden .off).goto .dFetch) := by
    simp only [run, hpoll, hrden, onNext_next]
  simp [hrun, xferPoll, State.recvTry, State.setPolled, State.setLevel, State.goto, hrx]

/-- Settles O38: the invariant keeps the counter below its bound at `XFER_SEND`. -/
theorem counterNeverWraps : Obligations.CounterNeverWraps := by
  intro s hinv hp hidle
  have hbound : s.ctr.toNat < 65535 := (Params.lt_maxSamples _).mp (hinv.bound (.inr (.inr (.inr hp))))
  have hsucc := Params.toNat_succ s.ctr hbound
  exact ⟨_, (exec_send_at_xferSend hp).trans (sendThen_idle hidle), hsucc, hsucc.trans_le hbound⟩

end Sys2Proof.Machine

/-! SUPPORT. Proofs of the statements on the dispatcher and the configurator (43_dispatcher_and_config.md): how a
command's bytes reach `exec`, the two halves of an instruction's meaning (it begins, and at its own phases it goes on),
and the whole commands as runs. -/

namespace Sys2Proof

section

variable {b p : Byte} {i : Instr} {bs rest : List Byte}

/-- Only a `CMD0` byte decodes by itself (R81). -/
theorem head_of_decode_single (h : decode [b] = .ok (i, [])) : head b = .whole i := by
  simp only [decode] at h
  split at h
  · next j hb => cases h; exact hb
  · cases h
  · cases h

/-- Two bytes that decode to one instruction with nothing left over are a `CMD1` command (R81). -/
theorem withParam_of_decode_pair (h : decode [b, p] = .ok (i, [])) :
    head b = .wantsParam ∧ withParam b p = some i := by
  simp only [decode] at h
  split at h
  · cases h
  · cases h
  · next hb =>
    split at h
    · next j hj => cases h; exact ⟨hb, hj⟩
    · cases h

end

end Sys2Proof

namespace Sys2Proof.Machine

/-- A later write of a line hides an earlier one. -/
theorem Lines.set_set_same (r : Lines) (l : Line) (v w : LineReg) : (r.set l v).set l w = r.set l w := by
  cases l <;> simp [Lines.set]

section

variable {s t : State} {i : Instr} {p : Byte}

/-! ## An instruction's meaning: it begins, and at its own phases it goes on -/

/-- The phases inside a command (R21, R160). -/
def Phase.belongsTo (q : Phase) : Instr → Prop
  | .version => ∃ k, q = .ver k
  | .setmult _ => ∃ k, q = .mul k
  | .setdac _ => q = .dacCsLo ∨ q = .dacHi ∨ q = .dacLo ∨ q = .dacCsHi
  | .capture | .fcapture => q.activity = .capturing
  | .send => q.activity = .transferring
  | .setedge _ => q = .edgeSet
  | .togbaud => q = .baudInit
  | .stop => False

theorem captureStep_eq_none (h : ¬ s.capturing) : captureStep s = none := by
  cases hp : s.phase <;> simp_all [State.capturing, Phase.activity, captureStep]

theorem execSend_begins (h : ¬ s.transferring) : execSend s = .next (s.goto .xferRdenOn) := by
  cases hp : s.phase <;> simp_all [State.transferring, Phase.activity, execSend]

/-- At every phase but its own an instruction begins: its row of R160, which the model's cut of `exec` gives at
every such phase (log 1, log 27). -/
theorem exec_outside (s : State) (i : Instr) (h : ¬ s.phase.belongsTo i) : exec i s = .next (s.begun i) := by
  cases i with
  | version =>
    simp only [exec, execVersion]
    split
    · next k hp => exact absurd ⟨k, hp⟩ h
    · rfl
  | setmult p =>
    simp only [exec, execSetmult, State.begun]
    split
    · next k hp => exact absurd ⟨k, hp⟩ h
    · cases multOfByte p <;> rfl
  | setdac p =>
    simp only [exec, execSetdac]
    split
    · next hp => exact absurd (.inl hp) h
    · next hp => exact absurd (.inr (.inl hp)) h
    · next hp => exact absurd (.inr (.inr (.inl hp))) h
    · next hp => exact absurd (.inr (.inr (.inr hp))) h
    · rfl
  | capture | fcapture => simp only [exec, execCapture, execFcapture, captureStep_eq_none h, State.begun]
  | send => exact execSend_begins h
  | setedge p =>
    simp only [exec, execSetedge, State.begun]
    split
    · next hp => exact absurd hp h
    · cases polOfByte p <;> rfl
  | togbaud =>
    simp only [exec, execTogbaud]
    split
    · next hp => exact absurd hp h
    · rfl
  | stop => rfl

/-- At a phase of its own it is `CTRL`'s step there (R21). -/
theorem exec_inside (s : State) (i : Instr) (h : s.phase.belongsTo i) : exec i s = (ctrlTurn s).result := by
  cases i with
  | version =>
    obtain ⟨k, hp⟩ := h
    exact (ctrl_eq_exec_version hp).symm
  | setmult p =>
    obtain ⟨k, hp⟩ := h
    exact (ctrl_eq_exec_setmult hp p).symm
  | setdac p => exact (ctrl_eq_exec_setdac h p).symm
  | capture => exact (ctrl_eq_exec_captures h).1.symm
  | fcapture => exact (ctrl_eq_exec_captures h).2.symm
  | send => exact (ctrl_send h).symm
  | setedge p => exact (ctrl_eq_exec_setedge h p).symm
  | togbaud => exact (ctrl_eq_exec_togbaud h).symm
  | stop => exact h.elim

/-! ## What a parameter names -/

/-- The three codes are the numbers 2, 4 and 8 (R85; the spec's decision D4, log 15). -/
theorem multOfByte_eq_some_iff {m : Mult} :
    multOfByte p = some m ↔ (p, m) ∈ [(2#8, Mult.two), (4#8, Mult.four), (8#8, Mult.eight)] := by
  unfold multOfByte
  split_ifs with h2 h4 h8
  · subst h2; cases m <;> decide
  · subst h4; cases m <;> decide
  · subst h8; cases m <;> decide
  · simp_all [multCode]

theorem multOfByte_eq_none (h : p ∉ [2#8, 4#8, 8#8]) : multOfByte p = none := by
  simp_all [multOfByte, multCode]

/-- The two sub-codes are the characters `r` and `f` (R86). -/
theorem polOfByte_eq_some_iff {q : Polarity} :
    polOfByte p = some q ↔ (p, q) ∈ [(0x72#8, Polarity.rising), (0x66#8, Polarity.falling)] := by
  unfold polOfByte
  split_ifs with hr hf
  · subst hr; cases q <;> decide
  · subst hf; cases q <;> decide
  · simp_all

theorem polOfByte_eq_none (h : p ∉ [0x72#8, 0x66#8]) : polOfByte p = none := by
  simp_all [polOfByte]

theorem begun_setmult {m : Mult} (h : multOfByte p = some m) :
    s.begun (.setmult p) = (s.setMult m).goto (.mul 0) := by
  simp only [State.begun, h]

theorem begun_setmult_ignored (h : multOfByte p = none) : s.begun (.setmult p) = s.goto .dFetch := by
  simp only [State.begun, h]

theorem begun_setedge {q : Polarity} (h : polOfByte p = some q) :
    s.begun (.setedge p) = (s.setPol q).goto .edgeSet := by
  simp only [State.begun, h]

theorem begun_setedge_ignored (h : polOfByte p = none) : s.begun (.setedge p) = s.goto .dFetch := by
  simp only [State.begun, h]

/-! ## The phases of the commands, with their events written out -/

/-- `VER(k)` on an idle link (R56, R164). -/
theorem ctrl_ver_idle {k : Fin 16} (hp : s.phase = .ver k) (hidle : s.link.sending = false) :
    (ctrlTurn s).result = .next ((s.send (versionReply.getD k.val 0#8)).goto (afterVer k)) :=
  (ctrl_ver hp).trans (sendThen_idle hidle)

/-- `MUL(k)` makes the write of the table of R167. -/
theorem ctrl_mul_event {k : Fin mulSteps} (hp : s.phase = .mul k) :
    (ctrlTurn s).result = .next { s with
      lines := (mulEvent s.dev.mult k).onLines s.lines, trace := s.trace ++ [mulEvent s.dev.mult k],
      phase := afterMul k } := by
  rw [ctrl_mul hp, perform_eq, mulWrite_event]
  rfl

/-- `BAUD_INIT` on a quiet link (R59, R178). -/
theorem ctrl_baudInit_quiet (hp : s.phase = .baudInit) (hrx : s.rx = []) (hlink : s.link = ⟨false, false⟩) :
    (ctrlTurn s).result =
      .next (((s.initRate (otherSpeed s.dev.speed)).setSpeed (otherSpeed s.dev.speed)).goto .dFetch) := by
  have hquiet : s.linkQuiet = true := (linkQuiet_iff s).mpr ⟨hrx, by rw [hlink], by rw [hlink]⟩
  simp only [ctrl_baudInit hp, transportInit, hquiet, if_true, onNext_next]

theorem eq_otherSpeed {v w : Speed} (h : v ≠ w) : v = otherSpeed w := by
  cases v <;> cases w <;> simp_all [otherSpeed]

/-- The level a read of `L_FILL` can return (R62, R103). -/
theorem levelOf_fill (s : State) :
    (s.lines.fill.dir = .output → s.levelOf .fill = s.lines.fill.latch) ∧
    (s.lines.fill.dir = .input → ∀ w, s.extFill = some w → s.levelOf .fill = w) :=
  ⟨fun hdir => State.levelOf_of_output (l := .fill) hdir,
    fun hdir _ hw => (State.levelOf_of_input (l := .fill) hdir).trans (State.ext_fill_of_driven hw)⟩

/-- CAPTURE and FCAPTURE make the sequencer's step inside a capture, and begin outside one (R120, R121). -/
theorem exec_of_captureStep {r : Result} (hi : i = .capture ∨ i = .fcapture) (h : captureStep s = some r) :
    exec i s = r := by
  rcases hi with rfl | rfl <;> simp only [exec, execCapture, execFcapture, h]

/-- The test of `XFER_POLL`: the stop byte first, then the bound (R142). -/
theorem afterPoll_eq (o : Option Byte) (c : Ctr) :
    (if transferGoesOn o c then Phase.xferClkOn else .xferRdenOff) =
      if o = some 0x6E#8 then .xferRdenOff else if c.toNat < 65535 then .xferClkOn else .xferRdenOff := by
  simp only [transferGoesOn_eq_true_iff]
  by_cases ho : o = some 0x6E#8 <;> simp [ho]

theorem exec_send_at_xferPoll (hp : s.phase = .xferPoll) :
    exec .send s = .next { s with
      polled := s.rx.head?, rx := s.rx.tail, trace := s.trace ++ [.rxT s.rx.head?],
      phase := if s.rx.head? = some 0x6E#8 then .xferRdenOff
               else if s.ctr.toNat < 65535 then .xferClkOn else .xferRdenOff } := by
  simp only [exec, execSend, hp]
  rw [← afterPoll_eq]
  rfl

theorem exec_send_at_xferRead (hp : s.phase = .xferRead) :
    exec .send s = .next { s with
      sample := s.busSample, trace := s.trace ++ [.bus s.busSample], draws := s.draws + 1, phase := .xferSend } := by
  simp only [exec, execSend, hp]
  rfl

/-! ## Runs of a whole command, with nothing scheduled -/

theorem onNext_answer (o : Result) : onNext o .next = o := by cases o <;> rfl

theorem run_of_step {n : Nat} (h : step s = .next t) : run (n + 1) s = run n t := by
  rw [run_succ, h, onNext_next]

theorem run_of_ctrl {n : Nat} (hs : s.sched = []) (h : (ctrlTurn s).result = .next t) :
    run (n + 1) s = run n t := run_of_step ((step_nil hs).trans h)

theorem run_two (s : State) : run 2 s = onNext (step s) step :=
  congrArg (onNext (step s)) (funext fun t => onNext_answer (step t))

/-- The state in which a two-byte command has been received at the dispatcher (R161, R162). -/
def State.receivedPair (s : State) (b p : Byte) (rest : List Byte) : State :=
  { s with rx := rest, cmd := b, param := p, phase := .dParam, trace := s.trace ++ [.rxB b, .rxB p] }

/-- `SETMULT`'s four writes put both select lines in the encoding (R90, R167). -/
theorem mulEvents_onLines (m : Mult) (r : Lines) :
    [mulEvent m 0, mulEvent m 1, mulEvent m 2, mulEvent m 3].foldl Event.onLines r =
      (r.set (.sel 0) (selectCode m)).set (.sel 1) (selectCode m) := by
  cases m <;> simp [mulEvent, Event.onLines, Lines.withDir, Lines.withLatch, Lines.set_set_same, selectCode]

/-- From `MUL(0)` the four writes, one a step (R167). -/
theorem run_mul (hs : s.sched = []) (hp : s.phase = .mul 0) :
    run 4 s = .next { s with
      lines := (s.lines.set (.sel 0) (selectCode s.dev.mult)).set (.sel 1) (selectCode s.dev.mult),
      trace := s.trace ++ [mulEvent s.dev.mult 0, mulEvent s.dev.mult 1, mulEvent s.dev.mult 2, mulEvent s.dev.mult 3],
      phase := .dFetch } := by
  rw [← mulEvents_onLines]
  refine Eq.trans (run_of_ctrl hs (ctrl_mul_event hp)) ?_
  refine Eq.trans (run_of_ctrl hs (ctrl_mul_event (k := 1) rfl)) ?_
  refine Eq.trans (run_of_ctrl hs (ctrl_mul_event (k := 2) rfl)) ?_
  refine Eq.trans (run_of_ctrl hs (ctrl_mul_event (k := 3) rfl)) ?_
  simp [run, afterMul]

/-- From `DAC_CS_LO` the two exchanges inside the chip-select (R172). -/
theorem run_dac (hs : s.sched = []) (hp : s.phase = .dacCsLo) :
    ∃ r₁ r₂, run 4 s = .next { s with
      lines := s.lines.withLatch .daccs .on,
      trace := s.trace ++ [.level .daccs .off, .spi (0x30#8 ||| s.dev.dac >>> 4) r₁, .spi (s.dev.dac <<< 4) r₂,
        .level .daccs .on],
      draws := s.draws + 2, phase := .dFetch } := by
  refine ⟨Config.freeShiftIn s.draws, Config.freeShiftIn (s.draws + 1), ?_⟩
  refine Eq.trans (run_of_ctrl hs (ctrl_dacCsLo hp)) ?_
  refine Eq.trans (run_of_ctrl hs (ctrl_dacHi rfl)) ?_
  refine Eq.trans (run_of_ctrl hs (ctrl_dacLo rfl)) ?_
  refine Eq.trans (run_of_ctrl hs (ctrl_dacCsHi rfl)) ?_
  simp [run, State.setLevel, State.exchange, State.goto, Lines.withLatch, Lines.set_set_same, dacHigh_eq, dacLow_eq]

/-! ### The version string -/

/-- The bytes sent one after the other: the effect of a row of `Send`s (R56). -/
def State.sendAll (s : State) (bs : List Byte) : State :=
  { s with tx := s.tx ++ bs, trace := s.trace ++ bs.map .tx }

theorem State.sendAll_after_send (s : State) (b : Byte) (bs : List Byte) (q q' : Phase) :
    (((s.send b).goto q).sendAll bs).goto q' = (s.sendAll (b :: bs)).goto q' := by
  simp [State.sendAll, State.send, State.goto]

/-- From `VER(k)` on an idle link the rest of the string is sent, a byte a step (R164). -/
theorem run_version {n : Nat} {k : Fin 16} (hk : k.val + n = 15) (hs : s.sched = []) (hp : s.phase = .ver k)
    (hidle : s.link.sending = false) :
    run (n + 1) s = .next ((s.sendAll (versionReply.drop k.val)).goto .dFetch) := by
  induction n generalizing s k with
  | zero =>
    obtain rfl : k = 15 := Fin.ext hk
    exact run_of_ctrl hs (ctrl_ver_idle hp hidle)
  | succ n ih =>
    have hlt : k.val + 1 < 16 := by omega
    have hnext : afterVer k = .ver ⟨k.val + 1, hlt⟩ := dif_pos hlt
    have hdrop : versionReply.drop k.val = versionReply.getD k.val 0#8 :: versionReply.drop (k.val + 1) := by
      rw [List.drop_eq_getElem_cons k.isLt, List.getD_eq_getElem _ _ k.isLt]
    have hrest := ih (s := (s.send (versionReply.getD k.val 0#8)).goto (.ver ⟨k.val + 1, hlt⟩))
      (k := ⟨k.val + 1, hlt⟩) (show k.val + 1 + n = 15 by omega) hs rfl hidle
    rw [run_of_ctrl hs (ctrl_ver_idle hp hidle), hnext, hrest, State.sendAll_after_send, hdrop]

theorem finishSending_of_idle (h : s.link.sending = false) : s.finishSending = s := by
  simp [State.finishSending, ← h]

/-- The whole string, after a held turn if the link is busy (R56, R164; log 25). -/
theorem run_version_reply (hs : s.sched = []) (hp : s.phase = .ver 0) :
    ∃ n, n ≤ 17 ∧ run n s = .next ((s.finishSending.sendAll versionReply).goto .dFetch) := by
  cases hlink : s.link.sending with
  | false =>
    rw [finishSending_of_idle hlink]
    exact ⟨16, by decide, run_version (n := 15) (k := 0) rfl hs hp hlink⟩
  | true =>
    have hheld : (ctrlTurn s).result = .next s.finishSending := (ctrl_ver hp).trans (sendThen_busy hlink)
    exact ⟨17, by decide, (run_of_ctrl hs hheld).trans
      (run_version (s := s.finishSending) (n := 15) (k := 0) rfl hs hp rfl)⟩

/-! ## The speed flag -/

theorem otherSpeed_involutive : Function.Involutive otherSpeed := fun v => by cases v <;> rfl

theorem begun_setSpeed (s : State) (i : Instr) (v : Speed) : (s.setSpeed v).begun i = (s.begun i).setSpeed v := by
  cases i with
  | setmult p => simp only [State.begun]; cases multOfByte p <;> rfl
  | setedge p => simp only [State.begun]; cases polOfByte p <;> rfl
  | _ => rfl

theorem sendThen_setSpeed {b : Byte} {rest : State → State} (v : Speed)
    (hrest : ∀ u, rest (u.setSpeed v) = (rest u).setSpeed v) :
    sendThen b (s.setSpeed v) rest = onNext (sendThen b s rest) fun t => .next (t.setSpeed v) := by
  cases hlink : s.link.sending with
  | true => rw [sendThen_busy hlink, sendThen_busy (s := s.setSpeed v) hlink]; rfl
  | false =>
    rw [sendThen_idle hlink, sendThen_idle (s := s.setSpeed v) hlink, onNext_next, ← hrest]
    rfl

theorem captureStep_setSpeed {r : Result} (v : Speed) (h : captureStep s = some r) :
    captureStep (s.setSpeed v) = some (onNext r fun t => .next (t.setSpeed v)) := by
  cases hp : s.phase <;> simp only [captureStep, hp, Option.some.injEq, reduceCtorEq] at h <;> subst h <;>
    simp only [captureStep, State.setSpeed_phase, hp, onNext_next]
  case capAck => exact congrArg some (sendThen_setSpeed v fun _ => rfl)
  all_goals rfl

theorem execSend_setSpeed (s : State) (v : Speed) :
    execSend (s.setSpeed v) = onNext (execSend s) fun t => .next (t.setSpeed v) := by
  cases hp : s.phase <;> simp only [execSend, State.setSpeed_phase, hp, onNext_next]
  case xferSend => exact sendThen_setSpeed v fun _ => rfl
  all_goals rfl

/-- Only TOGBAUD reads or sets the speed (R23, R178). -/
theorem exec_setSpeed (hi : i ≠ .togbaud) (s : State) (v : Speed) :
    exec i (s.setSpeed v) = onNext (exec i s) fun t => .next (t.setSpeed v) := by
  by_cases h : s.phase.belongsTo i
  · cases i with
    | version =>
      obtain ⟨k, hp⟩ := h
      rw [exec_version_at_ver hp, exec_version_at_ver (s := s.setSpeed v) hp]
      exact sendThen_setSpeed v fun _ => rfl
    | setmult p =>
      have h' : (s.setSpeed v).phase.belongsTo (.setmult p) := h
      obtain ⟨k, hp⟩ := h
      rw [exec_inside s (.setmult p) ⟨k, hp⟩, exec_inside (s.setSpeed v) (.setmult p) h', ctrl_mul_event hp,
        ctrl_mul_event (s := s.setSpeed v) hp]
      rfl
    | setdac p =>
      rcases h with hp | hp | hp | hp <;> simp only [exec, execSetdac, State.setSpeed_phase, hp, onNext_next] <;> rfl
    | capture | fcapture =>
      have hstep := captureStep_of_capturing h
      rw [exec_of_captureStep (by simp) hstep, exec_of_captureStep (by simp) (captureStep_setSpeed v hstep)]
    | send => exact execSend_setSpeed s v
    | setedge p =>
      rw [exec_inside s (.setedge p) h, exec_inside (s.setSpeed v) (.setedge p) h, ctrl_edgeSet h,
        ctrl_edgeSet (s := s.setSpeed v) h]
      rfl
    | togbaud => exact absurd rfl hi
    | stop => exact h.elim
  · rw [exec_outside s i h, exec_outside (s.setSpeed v) i h, begun_setSpeed, onNext_next]

@[simp] theorem State.begun_tx (s : State) (i : Instr) : (s.begun i).tx = s.tx := by
  cases i with
  | setmult p => simp only [State.begun]; cases multOfByte p <;> rfl
  | setedge p => simp only [State.begun]; cases polOfByte p <;> rfl
  | _ => rfl

/-! ## The DAC word -/

/-- The value shifted loses no bit (R89). -/
theorem shifted_toNat (v : Byte) : (v.setWidth 16 <<< 4).toNat = 16 * v.toNat := by
  have hv : v.toNat < 256 := v.isLt
  rw [BitVec.toNat_shiftLeft, BitVec.toNat_setWidth, Nat.shiftLeft_eq]
  omega

/-- It lies below the bits of the constant (R89). -/
theorem dacCmd_and_shifted (v : Byte) : 0x3000#16 &&& (v.setWidth 16 <<< 4) = 0#16 := by
  ext i hi
  interval_cases i <;> simp

theorem dacWord_toNat (v : Byte) : (dacWord v).toNat = 0x3000 + 16 * v.toNat := by
  have hv : v.toNat < 256 := v.isLt
  have hadd : dacWord v = 0x3000#16 + (v.setWidth 16 <<< 4) :=
    (BitVec.add_eq_or_of_and_eq_zero _ _ (dacCmd_and_shifted v)).symm
  rw [hadd, BitVec.toNat_add, shifted_toNat]
  exact Nat.mod_eq_of_lt (show 0x3000 + 16 * v.toNat < 65536 by omega)

end

/-! ## One step of the dispatcher -/

/-- Settles O8: `D_FETCH` on a byte that is a whole command runs it. -/
theorem stepRunsCommandByte : Obligations.StepRunsCommandByte := by
  intro s b rest i hctrl hp hrx hdecode
  have hfetch := ctrl_fetch (s := s.popMove) hp hrx
  rw [head_of_decode_single hdecode] at hfetch
  exact (step_ctrl hctrl).trans hfetch

/-- Settles O9: `D_PARAM` on the parameter of the command byte in `cmd` runs the pair. -/
theorem stepRunsParameterByte : Obligations.StepRunsParameterByte := by
  intro s p rest i hctrl hp hrx hdecode
  have hparam := ctrl_param (s := s.popMove) hp hrx
  rw [show withParam s.popMove.cmd p = some i from (withParam_of_decode_pair hdecode).2] at hparam
  exact (step_ctrl hctrl).trans hparam

/-- Settles O10: the first byte wants a parameter, so `D_FETCH` leads to `D_PARAM`, which runs the pair. -/
theorem twoStepsRunTwoByteCommand : Obligations.TwoStepsRunTwoByteCommand := by
  intro s b p rest i hs hp hrx hdecode
  obtain ⟨hhead, hpair⟩ := withParam_of_decode_pair hdecode
  let u := (s.received b (p :: rest) b s.param).goto .dParam
  have hfetch : step s = .next u := by
    have h := ctrl_fetch hp hrx
    rw [hhead, ← step_nil hs] at h
    exact h
  have hparam : step u = exec i (u.received p rest b p) := by
    have h := ctrl_param (s := u) (p := p) (rest := rest) rfl rfl
    rw [show withParam u.cmd p = some i from hpair] at h
    exact (step_nil (s := u) hs).trans h
  refine ⟨hfetch, ?_⟩
  rw [hfetch, onNext_next, hparam]
  simp [u, State.received, State.goto]

/-- Settles O13: a byte without a row is dropped, and the stop byte runs STOP, which does nothing at `D_FETCH`. -/
theorem undispatchedByteIgnored : Obligations.UndispatchedByteIgnored := by
  intro s b rest hctrl hp hrx hb
  by_cases hstop : b = 0x6E#8
  · subst hstop
    exact stepRunsCommandByte s _ rest .stop hctrl hp hrx rfl
  · have hfetch := ctrl_fetch (s := s.popMove) hp hrx
    rw [head_eq_unrecognised hb hstop] at hfetch
    exact (step_ctrl hctrl).trans hfetch

/-- Settles O44: of the steps of `CTRL`, the three `Send`s append to `tx`; no other writes it. -/
theorem onlyThreeStepsSend : Obligations.OnlyThreeStepsSend := by
  intro s t hctrl hstep
  cases ctrlTurn_ctrlStep ((step_ctrl hctrl).symm.trans hstep) with
  | version k hp => exact .inr (.inl ⟨k, hp, rfl⟩)
  | ack hp => exact .inr (.inr (.inl ⟨hp, rfl⟩))
  | transferSend hp => exact .inr (.inr (.inr ⟨hp, rfl⟩))
  | bootWrite | select => exact .inl (by rw [perform_eq]; rfl)
  | command i => exact .inl (State.begun_tx _ i)
  | parameter i => exact .inl (State.begun_tx _ i)
  | _ => exact .inl rfl

/-! ## The instructions, primitive by primitive -/

/-- Settles O14: outside its phases VERSION begins, and each of its phases is one `Send`. -/
theorem versionExecutes : Obligations.VersionExecutes := by
  intro s
  refine ⟨fun hout => exec_outside s _ fun ⟨k, hp⟩ => hout k hp, fun k hp hidle => ?_⟩
  rw [exec_inside s .version ⟨k, hp⟩, ctrl_ver_idle hp hidle, afterVer_eq]
  rfl

/-- Settles O15: the parameter names a multiplier or nothing, and each of the four phases is a row of the table. -/
theorem setmultExecutes : Obligations.SetmultExecutes := by
  intro p s
  refine ⟨fun hout => ?_, fun k hp => ?_⟩
  · have hbegins : exec (.setmult p) s = .next (s.begun (.setmult p)) := exec_outside s _ fun ⟨k, hp⟩ => hout k hp
    refine ⟨fun m hm => ?_, fun hp => ?_⟩
    · rw [hbegins, begun_setmult (multOfByte_eq_some_iff.mpr hm)]
      rfl
    · rw [hbegins, begun_setmult_ignored (multOfByte_eq_none hp)]
      rfl
  · rw [exec_inside s (.setmult p) ⟨k, hp⟩, ctrl_mul_event hp, afterMul_eq]

/-- Settles O16: each of the four phases is `CTRL`'s step there, with the DAC word's bytes written out. -/
theorem setdacExecutes : Obligations.SetdacExecutes := by
  intro p s
  refine ⟨fun hout => exec_outside s (.setdac p) (by simpa [Phase.belongsTo] using hout), fun hp => ?_,
    fun hp => ⟨Config.freeShiftIn s.draws, ?_⟩, fun hp => ⟨Config.freeShiftIn s.draws, ?_⟩, fun hp => ?_⟩
  · exact (exec_inside s (.setdac p) (.inl hp)).trans (ctrl_dacCsLo hp)
  · rw [exec_inside s (.setdac p) (.inr (.inl hp)), ctrl_dacHi hp, dacHigh_eq]
    rfl
  · rw [exec_inside s (.setdac p) (.inr (.inr (.inl hp))), ctrl_dacLo hp, dacLow_eq]
    rfl
  · exact (exec_inside s (.setdac p) (.inr (.inr (.inr hp)))).trans (ctrl_dacCsHi hp)

/-- Settles O17: outside a capture the two commands differ in `force`; inside, both make the sequencer's step. -/
theorem capturesExecute : Obligations.CapturesExecute := by
  intro s
  refine ⟨fun hout => ⟨exec_outside s _ hout, exec_outside s _ hout⟩, fun i hi =>
    ⟨fun hp => exec_of_captureStep hi (captureStep_capRden hp),
      fun hp => exec_of_captureStep hi (captureStep_capTrigOn hp),
      fun hp => exec_of_captureStep hi (captureStep_capTrigOff hp),
      fun hp => exec_of_captureStep hi (captureStep_capForceOn hp),
      fun hp => exec_of_captureStep hi (captureStep_capForceOff hp),
      fun hp => exec_of_captureStep hi (captureStep_capDelay hp),
      fun hp => exec_of_captureStep hi (captureStep_capPollRx hp),
      fun hp => ?_,
      fun hp hidle => (exec_of_captureStep hi (captureStep_capAck hp)).trans (sendThen_idle hidle)⟩⟩
  obtain ⟨houtput, hinput⟩ := levelOf_fill s
  refine ⟨s.levelOf .fill, houtput, hinput, ?_⟩
  rw [exec_of_captureStep hi (captureStep_capPollFill hp)]
  simp only [← captureEnds_eq_true_iff]
  rfl

/-- Settles O18: each of the seven phases is the transfer engine's step; the poll's test is spelt out. -/
theorem sendExecutes : Obligations.SendExecutes := by
  intro s
  refine ⟨fun hout => exec_outside s _ hout, fun hp => ?_, fun hp => exec_send_at_xferPoll hp, fun hp => ?_,
    fun hp => ?_, fun hp => ⟨s.busSample, fun _ hw => State.readBus_of_driven hw, exec_send_at_xferRead hp⟩,
    fun hp hidle => (exec_send_at_xferSend hp).trans (sendThen_idle hidle), fun hp => ?_⟩
  all_goals
    simp only [exec, execSend, hp]
    rfl

/-- Settles O19: the sub-code names a polarity or nothing, and the one phase writes the line. -/
theorem setedgeExecutes : Obligations.SetedgeExecutes := by
  intro p s
  refine ⟨fun hout => ?_, fun hp => (exec_inside s (.setedge p) hp).trans (ctrl_edgeSet hp)⟩
  rw [exec_outside s (.setedge p) hout]
  refine ⟨?_, ?_, fun hr hf => ?_⟩
  · rintro rfl
    rfl
  · rintro rfl
    rfl
  · rw [begun_setedge_ignored (polOfByte_eq_none (by simp [hr, hf]))]
    rfl

/-- Settles O20: there is one other speed, and on a quiet link `TransportInit` takes it. -/
theorem togbaudExecutes : Obligations.TogbaudExecutes := by
  intro s
  refine ⟨fun hout => exec_outside s _ hout, fun hp hrx hlink v hv => ?_⟩
  rw [eq_otherSpeed hv]
  exact (exec_inside s .togbaud hp).trans (ctrl_baudInit_quiet hp hrx hlink)

/-- Settles O21: STOP has no phase of its own. -/
theorem stopExecutes : Obligations.StopExecutes := fun s => exec_outside s .stop id

/-! ## Whole commands -/

section

variable {s : State} {b p : Byte} {rest : List Byte} {i : Instr}

/-- Two steps receive a two-byte command at `D_FETCH` and begin it; a longer run goes on from there. -/
theorem run_two_byte_command {n : Nat} (hs : s.sched = []) (hp : s.phase = .dFetch) (hrx : s.rx = b :: p :: rest)
    (hdecode : decode [b, p] = .ok (i, [])) : run (2 + n) s = run n ((s.receivedPair b p rest).begun i) := by
  have hexec : run 2 s = exec i (s.receivedPair b p rest) :=
    (run_two s).trans (twoStepsRunTwoByteCommand s b p rest i hs hp hrx hdecode).2
  rw [run_add, hexec, exec_begins (.inr rfl), onNext_next]

/-- The state after one toggle command, with the moves still scheduled (R178). -/
def State.toggled (s : State) (moves : List Move) : State :=
  { s with sched := moves, cmd := 0x42#8, rate := otherSpeed s.dev.speed,
           dev := { s.dev with speed := otherSpeed s.dev.speed },
           trace := s.trace ++ [.rxB 0x42#8, .init (otherSpeed s.dev.speed)] }

/-- The turns of one toggle: `HOST` sends the byte, `CTRL` receives it and initialises the transport. -/
theorem run_toggle {moves : List Move} (hp : s.phase = .dFetch) (hrx : s.rx = []) (hlink : s.link = ⟨false, false⟩)
    (hs : s.sched = .hostSend 0x42#8 :: .ctrl :: .ctrl :: moves) :
    run 3 s = .next (s.toggled moves) := by
  have hready : s.booting = false := by simp [State.booting, hp]
  let u : State := { s with sched := .ctrl :: .ctrl :: moves, rx := [0x42#8] }
  let v : State := { u.received 0x42#8 [] 0x42#8 u.param with sched := .ctrl :: moves }
  have hsend : step s = .next u := by
    rw [(hostMoves s 0x42#8).1 (by rw [hs]; rfl) hready, hs, hrx]
    rfl
  have hfetch : step u = .next (v.goto .baudInit) :=
    (stepRunsCommandByte u 0x42#8 [] .togbaud rfl hp rfl rfl).trans (exec_begins (s := v) (.inl hp) .togbaud)
  have hinit := ctrl_baudInit_quiet (s := (v.goto .baudInit).popMove) rfl rfl hlink
  rw [run_of_step hsend, run_of_step hfetch, run_of_step ((step_ctrl rfl).trans hinit)]
  simp [run, State.toggled, u, v, State.received, State.popMove, State.initRate, State.setSpeed, State.goto, hp, hrx]

/-- `n` toggles, one after the other, flip the speed `n` times. -/
theorem run_toggles {n : Nat} (hp : s.phase = .dFetch) (hrx : s.rx = []) (hlink : s.link = ⟨false, false⟩)
    (hrate : s.rate = s.dev.speed)
    (hs : s.sched = (List.replicate n [Move.hostSend 0x42#8, .ctrl, .ctrl]).flatten) :
    ∃ t, run (3 * n) s = .next t ∧ t.phase = .dFetch ∧ t.tx = s.tx ∧ t.rate = t.dev.speed ∧
      t.dev.speed = otherSpeed^[n] s.dev.speed := by
  induction n generalizing s with
  | zero => exact ⟨s, rfl, hp, rfl, hrate, rfl⟩
  | succ n ih =>
    obtain ⟨t, hrun, ht⟩ := ih 
      (s := s.toggled (List.replicate n [Move.hostSend 0x42#8, .ctrl, .ctrl]).flatten) hp hrx hlink rfl rfl
    refine ⟨t, ?_, ht⟩
    rw [Nat.mul_succ, Nat.add_comm, run_add, run_toggle hp hrx hlink hs, onNext_next]
    exact hrun

end

/-- Settles O24: the reception, a held turn if the link is busy, and the sixteen `Send`s. -/
theorem versionReplies : Obligations.VersionReplies := by
  intro s rest hs hp hrx
  let u := (s.received 0x76#8 rest 0x76#8 s.param).goto (.ver 0)
  have hfetch : (ctrlTurn s).result = .next u :=
    (ctrl_fetch hp hrx).trans (exec_begins (s := s.received 0x76#8 rest 0x76#8 s.param) (.inl hp) .version)
  obtain ⟨n, hn, hrun⟩ := run_version_reply (s := u) hs rfl
  refine ⟨n + 1, by omega, ?_⟩
  rw [run_of_ctrl hs hfetch, hrun]
  simp [u, State.received, State.goto, State.sendAll, State.finishSending, hp]

/-- Settles O25: received, a code begins the four writes and any other parameter ends the command. -/
theorem setmultDrivesSelectLines : Obligations.SetmultDrivesSelectLines := by
  intro s p rest hs hp hrx
  refine ⟨fun m hm => ?_, fun hno => ?_⟩
  · rw [run_two_byte_command (n := 4) hs hp hrx rfl, begun_setmult (multOfByte_eq_some_iff.mpr hm)]
    refine Eq.trans (run_mul hs rfl) ?_
    simp [State.receivedPair, State.setMult, State.goto, hp]
  · rw [run_two_byte_command (n := 0) hs hp hrx rfl, begun_setmult_ignored (multOfByte_eq_none hno)]
    simp [run, State.receivedPair, State.goto, hp]

/-- Settles O26: received, the parameter begins the four steps of the chip-select. -/
theorem setdacSendsTwoBytes : Obligations.SetdacSendsTwoBytes := by
  intro s p rest hs hp hrx
  obtain ⟨r₁, r₂, hrun⟩ := run_dac (s := (s.receivedPair 0x74#8 p rest).begun (.setdac p)) hs rfl
  refine ⟨r₁, r₂, ?_⟩
  rw [run_two_byte_command (n := 4) hs hp hrx rfl, hrun]
  simp [State.receivedPair, State.begun, State.setDac, State.goto, hp]

/-- Settles O27: received, a polarity begins the write of the line and any other sub-code ends the command. -/
theorem setedgeWritesEdgeLine : Obligations.SetedgeWritesEdgeLine := by
  intro s p rest hs hp hrx
  refine ⟨fun q hq => ?_, fun hno => ?_⟩
  · rw [run_two_byte_command (n := 1) hs hp hrx rfl, begun_setedge (polOfByte_eq_some_iff.mpr hq)]
    refine Eq.trans (run_of_ctrl hs (ctrl_edgeSet rfl)) ?_
    simp [run, State.receivedPair, State.setPol, State.setLevel, State.goto, hp]
  · rw [run_two_byte_command (n := 0) hs hp hrx rfl, begun_setedge_ignored (polOfByte_eq_none hno)]
    simp [run, State.receivedPair, State.goto, hp]

/-- Settles O28: the speed is flipped once a toggle, and `otherSpeed` is its own inverse. -/
theorem twoTogglesCancel : Obligations.TwoTogglesCancel := by
  refine ⟨fun n s hp hrx hlink hrate hs => ?_, fun i s v hi => exec_setSpeed hi s v⟩
  obtain ⟨t, hrun, hpt, htx, hrate', hspeed⟩ := run_toggles hp hrx hlink hrate hs
  refine ⟨t, hrun, hpt, htx, hrate', fun heven => ?_, fun hodd => ?_⟩
  · rw [hspeed, otherSpeed_involutive.iterate_even (Nat.even_iff.mpr heven), id]
  · rw [hspeed, otherSpeed_involutive.iterate_odd (Nat.odd_iff.mpr hodd)]
    exact otherSpeed_ne _

/-- Settles O57: the word is the constant plus sixteen times the value. -/
theorem dacWordArithmetic : Obligations.DacWordArithmetic := by
  intro v
  have hv : v.toNat < 256 := v.isLt
  have hword := dacWord_toNat v
  refine ⟨rfl, shifted_toNat v, dacCmd_and_shifted v, by omega, by omega, ?_, ?_, dacHigh_eq v, ?_, dacLow_eq v⟩
  · apply BitVec.eq_of_toNat_eq
    rw [BitVec.toNat_and, hword]
    refine (Nat.and_two_pow_sub_one_eq_mod _ 4).trans ?_
    rw [BitVec.toNat_ofNat]
    omega
  · apply BitVec.eq_of_toNat_eq
    rw [dacHigh, BitVec.toNat_setWidth, BitVec.toNat_setWidth, BitVec.toNat_ushiftRight, hword,
      Nat.shiftRight_eq_div_pow]
    omega
  · apply BitVec.eq_of_toNat_eq
    rw [BitVec.toNat_and, hword]
    refine Eq.trans ?_ (Nat.and_two_pow_sub_one_eq_mod _ 8).symm
    rw [dacLow, BitVec.toNat_setWidth, BitVec.toNat_setWidth, hword]
    omega

end Sys2Proof.Machine

/-! SUPPORT. Proofs of the statements on exceptions (60_exceptions.md): which turns of `CTRL` and which moves of the
other agents are refused. -/

namespace Sys2Proof.Machine

section

variable {s : State} {r : Refusal}

/-! ## The primitives -/

/-- A `Send` is never refused: a busy link holds it (R56). -/
theorem sendThen_next (b : Byte) (s : State) (rest : State → State) : ∃ t, sendThen b s rest = .next t := by
  cases hlink : s.link.sending with
  | true => exact ⟨_, sendThen_busy hlink⟩
  | false => exact ⟨_, sendThen_idle hlink⟩

/-- `TransportInit` and the rest of its step are refused only on a link that is not quiet (R59). -/
theorem transportInit_refused {v : Speed} {f : State → State}
    (h : onNext (transportInit v s) (fun u => .next (f u)) = .refused r) : r = .linkNotQuiet ∧ s.linkQuiet = false := by
  rcases transportInit_cases v s with ⟨-, hi⟩ | ⟨hlink, hi⟩
  · rw [hi] at h
    cases h
  · rw [hi] at h
    cases h
    exact ⟨rfl, hlink⟩

/-! ## One turn of `CTRL` -/

/-- Every way one turn of `CTRL` can be refused, as `CtrlStep` is every way it can be answered. -/
inductive CtrlRefused (s : State) : Refusal → Prop where
  | linkNotQuiet (hp : s.phase = .baudInit ∨ s.phase = .boot 17) (hlink : s.linkQuiet = false) :
      CtrlRefused s .linkNotQuiet
  | strayParameter (hp : s.phase = .dParam) (hcmd : head s.cmd ≠ .wantsParam) : CtrlRefused s .strayParameter

/-- Of the start-up list only the last step can be refused (R212). -/
theorem boot_refused {k : Fin bootSteps} (hp : s.phase = .boot k) (h : bootStep k s = .refused r) :
    CtrlRefused s r := by
  unfold bootStep at h
  split at h
  · cases h
  · next hnone =>
    have hlen : bootWrites.length = 16 := rfl
    have hk : 16 ≤ k.val := hlen ▸ List.getElem?_eq_none_iff.mp hnone
    rw [hlen] at h
    split at h
    · cases h
    · next h16 =>
      obtain rfl : k = 17 := Fin.ext (show k.val = 17 by have : k.val < 18 := k.isLt; omega)
      obtain ⟨rfl, hlink⟩ := transportInit_refused h
      exact .linkNotQuiet (.inr hp) hlink

/-- `D_FETCH` has an answer for every byte, and begins every command (R160, R161). -/
theorem fetch_next (hp : s.phase = .dFetch) : ∃ t, (ctrlTurn s).result = .next t := by
  cases hrx : s.rx with
  | nil => exact ⟨s, ctrl_fetch_empty hp hrx⟩
  | cons b rest =>
    rw [ctrl_fetch hp hrx]
    split
    · next i _ => exact ⟨_, exec_begins (s := s.received b rest b s.param) (.inl hp) i⟩
    · exact ⟨_, rfl⟩
    · exact ⟨_, rfl⟩

/-- `D_PARAM` has a row for every command byte that leads to it (R160). -/
theorem param_refused (hp : s.phase = .dParam) (h : (ctrlTurn s).result = .refused r) : CtrlRefused s r := by
  cases hrx : s.rx with
  | nil => cases (ctrl_param_empty hp hrx).symm.trans h
  | cons p rest =>
    rw [ctrl_param hp hrx] at h
    split at h
    · next i _ => cases (exec_begins (s := s.received p rest s.cmd p) (.inr hp) i).symm.trans h
    · next hnone =>
      cases h
      refine .strayParameter hp fun hwants => ?_
      obtain ⟨i, hi⟩ := withParam_of_wantsParam hwants p
      cases hnone.symm.trans hi

/-- Whatever a turn of `CTRL` is refused for is one of the cases listed: every other phase has an answer. -/
theorem ctrlTurn_refused (h : (ctrlTurn s).result = .refused r) : CtrlRefused s r := by
  cases hp : s.phase with
  | boot k => exact boot_refused hp (ctrl_boot hp ▸ h)
  | dParam => exact param_refused hp h
  | baudInit =>
    obtain ⟨rfl, hlink⟩ := transportInit_refused ((ctrl_baudInit hp).symm.trans h)
    exact .linkNotQuiet (.inl hp) hlink
  | dFetch =>
    obtain ⟨t, ht⟩ := fetch_next hp
    cases ht.symm.trans h
  | ver k =>
    obtain ⟨t, ht⟩ := sendThen_next (Params.versionByte k) s fun t => t.goto (afterVer k)
    cases ht.symm.trans ((ctrl_ver hp).symm.trans h)
  | mul k => cases (ctrl_mul hp).symm.trans h
  | dacCsLo => cases (ctrl_dacCsLo hp).symm.trans h
  | dacHi => cases (ctrl_dacHi hp).symm.trans h
  | dacLo => cases (ctrl_dacLo hp).symm.trans h
  | dacCsHi => cases (ctrl_dacCsHi hp).symm.trans h
  | edgeSet => cases (ctrl_edgeSet hp).symm.trans h
  | capRden | capTrigOn | capTrigOff | capForceOn | capForceOff | capDelay | capPollRx | capPollFill | capAck =>
    have hc : s.capturing := by simp [State.capturing, Phase.activity, hp]
    obtain ⟨t, ht⟩ := captureStep_next (captureStep_of_capturing hc)
    cases ht.symm.trans h
  | xferRdenOn | xferPoll | xferClkOn | xferClkOff | xferRead | xferSend | xferRdenOff =>
    have hx : s.transferring := by simp [State.transferring, Phase.activity, hp]
    obtain ⟨t, ht, -⟩ := execSend_transferStep hx
    cases ht.symm.trans ((ctrl_send hx).symm.trans h)

/-! ## The moves of the other agents -/

/-- The only agent whose move can be refused is `HOST` (R214). -/
theorem hostMoves_of_envMove_refused {m : Move} (h : envMove s m = some (.refused r)) :
    m = .hostTake ∨ ∃ b, m = .hostSend b := by
  cases m with
  | hostSend b => exact .inr ⟨b, rfl⟩
  | hostTake => exact .inl rfl
  | ctrl | driveFill | driveBus | setLink => cases h

end

/-- Settles O47: a refused step is a refused turn of `CTRL` or a refused move of `HOST`, and the invariant's clause for
`D_PARAM` excludes the stray parameter. -/
theorem refusedOnlyOutsideModel : Obligations.RefusedOnlyOutsideModel := by
  intro s r hinv hstep
  rcases step_cases s with ⟨hctrl, hturn⟩ | ⟨m, hm, -, hmove⟩
  · cases ctrlTurn_refused (hturn.symm.trans hstep) with
    | linkNotQuiet hp hlink => exact .inl ⟨rfl, hctrl, hp, hlink⟩
    | strayParameter hp hcmd => exact absurd (hinv.param hp) hcmd
  · rw [hstep] at hmove
    obtain ⟨hr, hboot⟩ := envMove_refused hmove
    refine .inr ⟨hr, hboot, ?_⟩
    rcases hostMoves_of_envMove_refused hmove with rfl | ⟨b, rfl⟩
    · exact .inl hm
    · exact .inr ⟨b, hm⟩

end Sys2Proof.Machine

/-! SUPPORT. Proofs of the statements on reset and hazards (70_reset_and_hazards.md): the start-up list as a run, and
which phases lead back to `D_FETCH`, under every schedule and with the link busy any number of times. -/

namespace Sys2Proof.Machine

section

variable {s t u : State} {m : Move} {b : Byte}

/-! ## The start-up list as a run -/

/-- The first seventeen steps of the list, row by row of R212: the event of the row, its line write if it is one, and
the row after it. -/
theorem bootStep_castSucc (k : Fin 17) (s : State) :
    bootStep k.castSucc s = .next { s with
      phase := .boot k.succ, lines := startUpTrace[k].onLines s.lines, trace := s.trace ++ [startUpTrace[k]] } := by
  fin_cases k <;> rfl

/-- Power-on with the first `k` rows of the start-up list carried out. -/
def State.bootedTo (k : Fin bootSteps) : State :=
  { State.reset with phase := .boot k, lines := replay (startUpTrace.take k), trace := startUpTrace.take k }

theorem step_bootedTo (k : Fin 17) : step (State.bootedTo k.castSucc) = .next (State.bootedTo k.succ) := by
  have htake : startUpTrace.take (k.val + 1) = startUpTrace.take k.val ++ [startUpTrace[k]] :=
    List.take_succ_eq_append_getElem _
  have hrow : (ctrlTurn (State.bootedTo k.castSucc)).result = _ := (ctrl_boot rfl).trans (bootStep_castSucc k _)
  rw [step_nil rfl, hrow]
  simp only [State.bootedTo, Fin.val_succ, Fin.val_castSucc, htake, replay_append]

theorem run_bootedTo (k : Fin bootSteps) : run k State.reset = .next (State.bootedTo k) := by
  induction k using Fin.induction with
  | zero => rfl
  | succ k ih =>
    rw [Fin.val_succ, run_add, ← Fin.val_castSucc, ih, onNext_next]
    exact (onNext_answer _).trans (step_bootedTo k)

theorem dirAfter_boot_eq_output {n : Nat} {k : Fin bootSteps} : dirAfter n (.boot k) = .output ↔ n < k.val := by
  simp [dirAfter]

/-- During start-up a line that is an output already is at its ready value: its latch was loaded before (R106, R212). -/
theorem eq_ready_of_lineOk_boot {k : Fin bootSteps} {l : Line} {v : LineReg}
    (h : LineOk (.boot k) State.reset.dev l v) (hout : v.dir = .output) : v = readyLines.get l := by
  cases l with
  | edge =>
    obtain ⟨hdir, hlatch⟩ := h
    have hk : 9 < k.val := dirAfter_boot_eq_output.mp (hdir ▸ hout)
    have hloaded : v.latch = Config.edgeLevel .rising := by
      rw [hlatch nofun, edgeLatch, if_neg (by omega)]
    obtain ⟨d, x⟩ := v
    exact congrArg₂ LineReg.mk hout hloaded
  | daccs =>
    obtain rfl : v = _ := h
    have hk : 11 < k.val := dirAfter_boot_eq_output.mp hout
    have hloaded : daccsLatch (.boot k) = .on := if_neg (by omega)
    exact congrArg₂ LineReg.mk hout hloaded
  | fill | data i | sel i =>
    obtain rfl : v = _ := h
    cases hout
  | _ =>
    obtain rfl : v = _ := h
    exact congrArg₂ LineReg.mk hout rfl

theorem pad_of_lineOk_boot {k : Fin bootSteps} {r : Lines} {l : Line}
    (h : LineOk (.boot k) State.reset.dev l (r.get l)) : r.pad l = none ∨ r.pad l = readyLines.pad l := by
  cases hdir : (r.get l).dir with
  | input => exact .inl (by simp only [Lines.pad, hdir])
  | output => exact .inr (by simp only [Lines.pad, eq_ready_of_lineOk_boot h hdir])

/-! ## What the other agents cannot change -/

/-- The byte a move of `HOST` sends (R55). -/
def Move.sentByte : Move → Option Byte
  | .hostSend b => some b
  | _ => none

/-- The bytes waiting in `rx` and those that will be sent, in the order in which they are received. -/
def State.incoming (s : State) : List Byte := s.rx ++ s.sched.filterMap Move.sentByte

theorem mem_incoming : b ∈ s.incoming ↔ b ∈ s.rx ∨ .hostSend b ∈ s.sched := by
  have hsent (m : Move) : m.sentByte = some b ↔ m = .hostSend b := by cases m <;> simp [Move.sentByte]
  simp [State.incoming, List.mem_filterMap, hsent]

/-- What decides whether `CTRL` returns, and what no other agent's move changes: where `CTRL` is, the bytes it will
receive, and what the fill line will show in the end. -/
structure SameOutlook (s t : State) : Prop where
  phase : t.phase = s.phase
  cmd : t.cmd = s.cmd
  polled : t.polled = s.polled
  lines : t.lines = s.lines
  incoming : t.incoming = s.incoming
  fillInTheEnd : t.fillInTheEnd = s.fillInTheEnd

theorem SameOutlook.refl : SameOutlook s s := ⟨rfl, rfl, rfl, rfl, rfl, rfl⟩

theorem SameOutlook.trans (h : SameOutlook s t) (h' : SameOutlook t u) : SameOutlook s u :=
  ⟨h'.phase.trans h.phase, h'.cmd.trans h.cmd, h'.polled.trans h.polled, h'.lines.trans h.lines,
    h'.incoming.trans h.incoming, h'.fillInTheEnd.trans h.fillInTheEnd⟩

/-- `CTRL`'s turn taken off the schedule. -/
theorem SameOutlook.of_ctrlMoves (h : s.ctrlMoves = true) : SameOutlook s s.popMove := by
  cases hsched : s.sched with
  | nil => exact (popMove_of_nil hsched).symm ▸ .refl
  | cons m rest =>
    obtain rfl : m = .ctrl := by cases m <;> simp [State.ctrlMoves, hsched] at h ⊢
    exact ⟨rfl, rfl, rfl, rfl, by simp [State.incoming, hsched, List.filterMap_cons, Move.sentByte],
      by simp [State.fillInTheEnd, hsched]⟩

/-- A move of another agent: what it sends or drives was already in the outlook. -/
theorem SameOutlook.of_envMove (hm : s.sched.head? = some m) (h : envMove s.popMove m = some (.next t)) :
    SameOutlook s t := by
  obtain ⟨rest, hsched⟩ : ∃ rest, s.sched = m :: rest := List.head?_eq_some_iff.mp hm
  cases m <;> simp only [envMove, Option.some.injEq, reduceCtorEq] at h
  case hostSend | hostTake =>
    cases hostMove_next h
    exact ⟨rfl, rfl, rfl, rfl, by simp [State.incoming, hsched, List.filterMap_cons, Move.sentByte],
      by simp [State.fillInTheEnd, hsched]⟩
  all_goals
    cases h
    exact ⟨rfl, rfl, rfl, rfl, by simp [State.incoming, hsched, List.filterMap_cons, Move.sentByte],
      by simp [State.fillInTheEnd, hsched]⟩

/-! ## From one turn of `CTRL` to the next -/

/-- After `n` moves of other agents `CTRL` takes its turn at `u`: the schedule is shorter by then, or it was used up
and `CTRL` moved at once. -/
structure TurnAfter (s : State) (n : Nat) (u : State) : Prop where
  run : run (n + 1) s = (ctrlTurn u).result
  outlook : SameOutlook s u
  sched : u.sched.length < s.sched.length ∨ s.sched = [] ∧ u = s

/-- Once start-up is over, `CTRL` gets its turn under every schedule. -/
theorem exists_turnAfter (hready : s.booting = false) : ∃ n u, TurnAfter s n u := by
  induction hsched : s.sched generalizing s with
  | nil => exact ⟨0, s, (onNext_answer _).trans (step_nil hsched), .refl, .inr ⟨hsched, rfl⟩⟩
  | cons m rest ih =>
    rcases step_cases s with ⟨hctrl, hstep⟩ | ⟨move, hm, -, hmove⟩
    · exact ⟨0, s.popMove, (onNext_answer _).trans hstep, .of_ctrlMoves hctrl, .inl (by simp [hsched])⟩
    · obtain ⟨t, ht⟩ := envMove_next_of_ready (s := s.popMove) hready hmove
      rw [ht] at hmove
      have houtlook : SameOutlook s t := .of_envMove hm hmove
      have hrest : t.sched = rest := by rw [(envMove_frame hmove).1]; simp [hsched]
      obtain ⟨n, u, hrun, hu, hlen⟩ := ih (by rw [State.booting, houtlook.phase]; exact hready) hrest
      refine ⟨n + 1, u, (run_of_step ht).trans hrun, houtlook.trans hu, .inl ?_⟩
      rcases hlen with hlt | ⟨-, rfl⟩
      · simp only [hrest, hsched, List.length_cons] at hlt ⊢
        omega
      · simp [hrest, hsched]

@[simp] theorem State.begun_sched (s : State) (i : Instr) : (s.begun i).sched = s.sched := by
  cases i with
  | setmult p => simp only [State.begun]; cases multOfByte p <;> rfl
  | setedge p => simp only [State.begun]; cases polOfByte p <;> rfl
  | _ => rfl

/-- A turn of `CTRL` leaves the rest of the schedule as it is. -/
theorem ctrlTurn_sched (h : (ctrlTurn s).result = .next t) : t.sched = s.sched := by
  cases ctrlTurn_ctrlStep h with
  | bootWrite | select => rw [perform_eq]; rfl
  | command i | parameter i => exact State.begun_sched _ i
  | _ => rfl

theorem returns_of_run {n : Nat} (h : run n s = .next t) (ht : t.returns) : s.returns := by
  obtain ⟨k, u, hrun, hu⟩ := ht
  exact ⟨n + k, u, by rw [run_add, h, onNext_next, hrun], hu⟩

/-- The packaged induction for R231: `CTRL` returns from `P` if each of its turns there leads to a state from which it
returns, or to `P` again, and, once the schedule is used up, nearer by `μ`. -/
theorem returns_of_turns {P : State → Prop} (μ : State → Nat) (hready : ∀ s, P s → s.booting = false)
    (hsame : ∀ s t, SameOutlook s t → P s → P t)
    (hturn : ∀ s, P s → ∃ t, (ctrlTurn s).result = .next t ∧ (t.returns ∨ P t ∧ (s.sched = [] → μ t < μ s)))
    (hs : P s) : s.returns := by
  induction hlen : s.sched.length using Nat.strong_induction_on generalizing s with | _ len ihSched =>
  induction hμ : μ s using Nat.strong_induction_on generalizing s with | _ k ihTurns =>
  obtain ⟨n, u, hrun, hu, hsched⟩ := exists_turnAfter (hready s hs)
  obtain ⟨t, ht, hreturns | ⟨hP, hlt⟩⟩ := hturn u (hsame s u hu hs)
  · exact returns_of_run (hrun.trans ht) hreturns
  · have hsame_sched : t.sched = u.sched := ctrlTurn_sched ht
    refine returns_of_run (hrun.trans ht) ?_
    rcases hsched with hshorter | ⟨hnil, rfl⟩
    · exact ihSched _ (by rw [← hlen]; exact hshorter) hP (by rw [hsame_sched])
    · exact ihTurns _ (hμ ▸ hlt hnil) hP (by rw [hsame_sched, hlen]) rfl

/-! ## Phases from which `CTRL` always returns -/

theorem booting_eq_false (h : ∀ k, s.phase ≠ .boot k) : s.booting = false := by
  unfold State.booting
  split
  · next k hp => exact absurd hp (h k)
  · rfl

/-- A phase at which every turn of `CTRL` that no busy link holds leads to a state from which it returns: a hold lasts
one turn, so the schedule can bring about only so many (R56; log 25). -/
theorem returns_at {p : Phase} (hp : s.phase = p) (hboot : ∀ k, p ≠ .boot k)
    (hturn : ∀ s, s.phase = p → ∃ t, (ctrlTurn s).result = .next t ∧
      (t.returns ∨ s.link.sending = true ∧ t = s.finishSending)) : s.returns := by
  refine returns_of_turns (P := (·.phase = p)) (fun s => s.link.sending.toNat)
    (fun s hs => booting_eq_false (hs ▸ hboot)) (fun s t h hs => h.phase.trans hs) (fun s hs => ?_) hp
  obtain ⟨t, ht, hreturns | ⟨hbusy, rfl⟩⟩ := hturn s hs
  · exact ⟨t, ht, .inl hreturns⟩
  · exact ⟨_, ht, .inr ⟨hs, fun _ => by simp [hbusy]⟩⟩

/-- A phase whose turn is never held. -/
theorem returns_at_of_next {p : Phase} (hp : s.phase = p) (hboot : ∀ k, p ≠ .boot k)
    (hturn : ∀ s, s.phase = p → ∃ t, (ctrlTurn s).result = .next t ∧ t.returns) : s.returns :=
  returns_at hp hboot fun s hs => (hturn s hs).imp fun _ => And.imp_right .inl

/-- A phase whose turn is a `Send` (R56). -/
theorem returns_at_of_send {p : Phase} {b : Byte} {rest : State → State} (hp : s.phase = p) (hboot : ∀ k, p ≠ .boot k)
    (hturn : ∀ s, s.phase = p → (ctrlTurn s).result = sendThen b s rest) (hrest : ∀ s, (rest s).returns) : s.returns := by
  refine returns_at hp hboot fun s hs => ?_
  cases hlink : s.link.sending with
  | true => exact ⟨_, (hturn s hs).trans (sendThen_busy hlink), .inr ⟨rfl, rfl⟩⟩
  | false => exact ⟨_, (hturn s hs).trans (sendThen_idle hlink), .inl (hrest _)⟩

theorem returns_at_dFetch (hp : s.phase = .dFetch) : s.returns := ⟨0, s, rfl, hp⟩

theorem returns_at_edgeSet (hp : s.phase = .edgeSet) : s.returns :=
  returns_at_of_next hp nofun fun _ h => ⟨_, ctrl_edgeSet h, returns_at_dFetch rfl⟩

theorem returns_at_dacCsHi (hp : s.phase = .dacCsHi) : s.returns :=
  returns_at_of_next hp nofun fun _ h => ⟨_, ctrl_dacCsHi h, returns_at_dFetch rfl⟩

theorem returns_at_dacLo (hp : s.phase = .dacLo) : s.returns :=
  returns_at_of_next hp nofun fun _ h => ⟨_, ctrl_dacLo h, returns_at_dacCsHi rfl⟩

theorem returns_at_dacHi (hp : s.phase = .dacHi) : s.returns :=
  returns_at_of_next hp nofun fun _ h => ⟨_, ctrl_dacHi h, returns_at_dacLo rfl⟩

theorem returns_at_dacCsLo (hp : s.phase = .dacCsLo) : s.returns :=
  returns_at_of_next hp nofun fun _ h => ⟨_, ctrl_dacCsLo h, returns_at_dacHi rfl⟩

/-- From the last of the four writes back to the first (R167). -/
theorem returns_at_mul {k : Fin mulSteps} (hp : s.phase = .mul k) : s.returns := by
  induction k using Fin.reverseInduction generalizing s with
  | last => exact returns_at_of_next hp nofun fun _ h => ⟨_, ctrl_mul h, returns_at_dFetch rfl⟩
  | cast k ih =>
    have hnext : afterMul k.castSucc = .mul k.succ := dif_pos (Nat.succ_lt_succ k.isLt)
    exact returns_at_of_next hp nofun fun _ h => ⟨_, ctrl_mul h, ih hnext⟩

/-- From the last byte of the version string back to the first (R164). -/
theorem returns_at_ver {k : Fin 16} (hp : s.phase = .ver k) : s.returns := by
  induction k using Fin.reverseInduction generalizing s with
  | last => exact returns_at_of_send hp nofun (fun _ => ctrl_ver) (fun _ => returns_at_dFetch rfl)
  | cast k ih =>
    have hnext : afterVer k.castSucc = .ver k.succ := dif_pos (Nat.succ_lt_succ k.isLt)
    exact returns_at_of_send hp nofun (fun _ => ctrl_ver) (fun _ => ih hnext)

theorem returns_at_capAck (hp : s.phase = .capAck) : s.returns :=
  returns_at_of_send hp nofun (fun _ h => ctrl_capture (captureStep_capAck h)) (fun _ => returns_at_dFetch rfl)

theorem returns_of_transferring (hx : s.transferring) : s.returns := by
  obtain ⟨n, t, -, hrun, hp⟩ := everySessionEnds s hx
  exact ⟨n, t, hrun, hp⟩

/-- `BAUD_INIT` has one turn, which returns on a quiet link and is outside the model on any other (R59). -/
theorem returns_or_refused_at_baudInit (hp : s.phase = .baudInit) :
    s.returns ∨ ∃ n, run n s = .refused .linkNotQuiet := by
  obtain ⟨n, u, hrun, hu, -⟩ := exists_turnAfter (booting_eq_false (s := s) (by simp [hp]))
  rw [ctrl_baudInit (hu.phase.trans hp)] at hrun
  rcases transportInit_cases (otherSpeed u.dev.speed) u with ⟨-, hinit⟩ | ⟨-, hinit⟩
  · rw [hinit, onNext_next] at hrun
    exact .inl ⟨n + 1, _, hrun, rfl⟩
  · rw [hinit, onNext_refused] at hrun
    exact .inr ⟨n + 1, hrun⟩

/-! ## Waiting for the parameter -/

/-- Whatever the parameter, the command it completes returns (R160, R162). -/
theorem returns_of_begun_withParam {c p : Byte} {i : Instr} (h : withParam c p = some i) (s : State) :
    (s.begun i).returns := by
  unfold withParam at h
  split_ifs at h <;> cases h <;> simp only [State.begun]
  · split
    · exact returns_at_mul rfl
    · exact returns_at_dFetch rfl
  · exact returns_at_dacCsLo rfl
  · split
    · exact returns_at_edgeSet rfl
    · exact returns_at_dFetch rfl

/-- At `D_PARAM` for a command that takes a parameter, with a byte waiting or still to be sent. -/
structure ParameterDue (s : State) : Prop where
  phase : s.phase = .dParam
  cmd : head s.cmd = .wantsParam
  incoming : s.incoming ≠ []

theorem ParameterDue.turn (h : ParameterDue s) :
    ∃ t, (ctrlTurn s).result = .next t ∧ (t.returns ∨ ParameterDue t ∧ s.sched ≠ []) := by
  cases hrx : s.rx with
  | nil =>
    refine ⟨s, ctrl_param_empty h.phase hrx, .inr ⟨h, fun hsched => h.incoming ?_⟩⟩
    simp [State.incoming, hrx, hsched]
  | cons p rest =>
    obtain ⟨i, hi⟩ := withParam_of_wantsParam h.cmd p
    refine ⟨(s.received p rest s.cmd p).begun i, ?_, .inl (returns_of_begun_withParam hi _)⟩
    rw [ctrl_param h.phase hrx, hi]
    exact exec_begins (s := s.received p rest s.cmd p) (.inr h.phase) i

/-! ## Waiting for the end of a capture -/

/-- What will end the wait of a capture: a stop byte still to be received or just polled, or the fill level (R128). -/
inductive SignalDue (s : State) : Prop where
  | stop (h : 0x6E#8 ∈ s.incoming)
  | fill (hdir : s.lines.fill.dir = .input) (hon : s.fillInTheEnd = some .on)
  | polled (hp : s.phase = .capPollFill) (h : s.polled = some 0x6E#8)

/-- How many turns of `CTRL` a capture has left before its acknowledgment once the schedule is used up, at most: two
for each byte that the polls still have to receive (R126, R127). -/
def State.captureTurns (s : State) : Nat :=
  match s.phase with
  | .capRden => 2 * s.rx.tail.length + 7
  | .capTrigOn => 2 * s.rx.tail.length + 6
  | .capTrigOff => 2 * s.rx.tail.length + 5
  | .capForceOn => 2 * s.rx.tail.length + 4
  | .capForceOff => 2 * s.rx.tail.length + 3
  | .capDelay => 2 * s.rx.tail.length + 2
  | .capPollRx => 2 * s.rx.tail.length + 1
  | .capPollFill => 2 * s.rx.length
  | _ => 0

/-- Outside `CAP_POLL_FILL` the signal still to come is a matter of `rx`, the schedule and the fill line alone. -/
theorem SignalDue.of_same (h : SignalDue s) (hp : s.phase ≠ .capPollFill) (hlines : t.lines.fill = s.lines.fill)
    (hfill : t.extFill = s.extFill) (hsched : t.sched = s.sched) (hrx : t.rx = s.rx) : SignalDue t := by
  cases h with
  | stop hstop => exact .stop (by simpa [State.incoming, hsched, hrx] using hstop)
  | fill hdir hon => exact .fill (hlines ▸ hdir) (by simpa [State.fillInTheEnd, hsched, hfill] using hon)
  | polled hp' => exact absurd hp' hp

theorem SignalDue.of_outlook (h : SignalDue s) (ht : SameOutlook s t) : SignalDue t := by
  cases h with
  | stop hstop => exact .stop (ht.incoming ▸ hstop)
  | fill hdir hon => exact .fill (ht.lines ▸ hdir) (ht.fillInTheEnd ▸ hon)
  | polled hp hstop => exact .polled (ht.phase.trans hp) (ht.polled.trans hstop)

theorem booting_of_capturing (hc : s.capturing) : s.booting = false :=
  booting_eq_false fun k hp => by simp [State.capturing, Phase.activity, hp] at hc

/-- In a capture that will end. -/
structure CaptureDue (s : State) : Prop where
  capturing : s.capturing
  signal : SignalDue s

/-- The poll takes one byte: the stop byte, or one before it (R126). -/
theorem CaptureDue.after_pollRx (h : CaptureDue s) (hp : s.phase = .capPollRx) : CaptureDue (capPollRx s) := by
  refine ⟨rfl, ?_⟩
  cases h.signal with
  | stop hstop =>
    cases hrx : s.rx with
    | nil => exact .stop (by simpa [State.incoming, capPollRx, hrx] using hstop)
    | cons b rest =>
      rcases eq_or_ne (0x6E#8) b with rfl | hb
      · exact .polled rfl (by simp [capPollRx, hrx])
      · exact .stop (by simpa [State.incoming, capPollRx, hrx, hb] using hstop)
  | fill hdir hon => exact .fill hdir hon
  | polled hp' => cases hp.symm.trans hp'

/-- A poll that does not end the wait leaves the signal still to come, and, with nothing scheduled, in `rx`: the fill
level would have been read (R127). -/
theorem CaptureDue.after_pollFill (h : CaptureDue s) (hgoes : captureEnds s.polled (s.levelOf .fill) = false) :
    CaptureDue (capPollFill s) ∧ (s.sched = [] → s.rx ≠ []) := by
  obtain ⟨hnoStop, hoff⟩ := captureEnds_eq_false_iff.mp hgoes
  have hphase : (capPollFill s).phase = .capPollRx := by simp [capPollFill, hgoes]
  have hcapturing : (capPollFill s).capturing := by rw [State.capturing, hphase]; rfl
  cases h.signal with
  | stop hstop =>
    refine ⟨⟨hcapturing, .stop hstop⟩, fun hsched => ?_⟩
    have hrx : 0x6E#8 ∈ s.rx := by simpa [State.incoming, hsched] using hstop
    exact List.ne_nil_of_mem hrx
  | fill hdir hon =>
    refine ⟨⟨hcapturing, .fill hdir hon⟩, fun hsched => ?_⟩
    have hdriven : s.extFill = some .on := by simpa [State.fillInTheEnd, hsched] using hon
    cases hoff.symm.trans ((levelOf_fill s).2 hdir _ hdriven)
  | polled _ hstop => exact absurd hstop hnoStop

/-- Every turn brings the end of the capture nearer. -/
theorem CaptureDue.turn (h : CaptureDue s) :
    ∃ t, (ctrlTurn s).result = .next t ∧
      (t.returns ∨ CaptureDue t ∧ (s.sched = [] → t.captureTurns < s.captureTurns)) := by
  have hc := h.capturing
  have hturn := captureStep_of_capturing hc
  obtain ⟨t, ht⟩ := captureStep_next hturn
  rw [ht] at hturn
  refine ⟨t, ht, ?_⟩
  cases hp : s.phase <;> simp only [State.capturing, Phase.activity, hp, reduceCtorEq] at hc
  case capAck =>
    rcases sendThen_cases (Option.some.inj ((captureStep_capAck hp).symm.trans hturn)) with ⟨-, rfl⟩ | ⟨-, rfl⟩
    · exact .inl (returns_at_capAck hp)
    · exact .inl (returns_at_dFetch rfl)
  case capPollRx =>
    cases (captureStep_capPollRx hp).symm.trans hturn
    exact .inr ⟨h.after_pollRx hp, fun _ => by simp [State.captureTurns, capPollRx, hp]⟩
  case capPollFill =>
    cases (captureStep_capPollFill hp).symm.trans hturn
    cases hends : captureEnds s.polled (s.levelOf .fill) with
    | true => exact .inl (returns_at_capAck (by simp [capPollFill, hends]))
    | false =>
      obtain ⟨hdue, hrx⟩ := h.after_pollFill hends
      refine .inr ⟨hdue, fun hsched => ?_⟩
      have hlen : 0 < s.rx.length := List.length_pos_iff.mpr (hrx hsched)
      have hnow : s.captureTurns = 2 * s.rx.length := by simp only [State.captureTurns, hp]
      have hthen : (capPollFill s).captureTurns = 2 * (s.rx.length - 1) + 1 := by
        simp [State.captureTurns, capPollFill, hends]
      omega
  case capTrigOff =>
    cases (captureStep_capTrigOff hp).symm.trans hturn
    have hdue : SignalDue ((s.setLevel .trig .off).goto (if s.force then .capForceOn else .capDelay)) :=
      h.signal.of_same (by simp [hp]) rfl rfl rfl rfl
    cases hforce : s.force <;> rw [hforce] at hdue <;>
      exact .inr ⟨⟨rfl, hdue⟩, fun _ => by simp [State.captureTurns, hp]⟩
  all_goals
    simp only [captureStep, hp, Option.some.injEq] at hturn
    cases hturn
    exact .inr ⟨⟨rfl, h.signal.of_same (by simp [hp]) rfl rfl rfl rfl⟩, fun _ => by simp [State.captureTurns, hp]⟩

end

/-- Settles O1: the values are the model's, and no input drives its pad. -/
theorem powerOnState : Obligations.PowerOnState :=
  ⟨rfl, rfl, fun l => ⟨Lines.get_reset l, by
    have hget : State.reset.lines.get l = .reset := Lines.get_reset l
    simp only [Lines.pad, hget, LineReg.reset]⟩, rfl, rfl⟩

/-- Settles O2: the rows one after the other, the invariant for the pads on the way, and at `BOOT(17)` the quiet link. -/
theorem startUpListRuns : Obligations.StartUpListRuns := by
  refine ⟨fun n => ⟨_, run_bootedTo n, rfl, rfl, fun l => ?_⟩, ?_⟩
  · have hinv : Inv (State.bootedTo n) := Reachable.of_step invHoldsAtPowerOn everyStepKeepsInv ⟨[], n, run_bootedTo n⟩
    exact pad_of_lineOk_boot ((inv_iff.mp hinv).1 l)
  · have hlines : replay (startUpTrace.take 17) = readyLines := rfl
    have hlast : step (State.bootedTo 17) = _ := (step_nil rfl).trans (ctrl_boot rfl)
    rw [run_add 17 1, show run 17 State.reset = _ from run_bootedTo 17, onNext_next]
    refine (onNext_answer _).trans (hlast.trans ?_)
    rw [← hlines]
    rfl

/-- Settles O51: from each phase listed `CTRL` returns, by the lemma on that phase. -/
theorem commandsReturnUnconditionally : Obligations.CommandsReturnUnconditionally := by
  refine fun s => ⟨?_, returns_or_refused_at_baudInit⟩
  rintro (⟨k, hp⟩ | hx | ⟨k, hp⟩ | hp)
  · exact returns_at_ver hp
  · exact returns_of_transferring hx
  · exact returns_at_mul hp
  · simp only [List.mem_cons, List.not_mem_nil, or_false] at hp
    rcases hp with hp | hp | hp | hp | hp | hp
    · exact returns_at_dacCsLo hp
    · exact returns_at_dacHi hp
    · exact returns_at_dacLo hp
    · exact returns_at_dacCsHi hp
    · exact returns_at_edgeSet hp
    · exact returns_at_capAck hp

/-- Settles O52: `CTRL` is held only while the byte is still scheduled. -/
theorem parameterCommandsReturn : Obligations.ParameterCommandsReturn := by
  intro s hp hcmd hbyte
  have hincoming : s.incoming ≠ [] := by
    rcases hbyte with hrx | ⟨b, hb⟩
    · simp [State.incoming, hrx]
    · exact List.ne_nil_of_mem (mem_incoming.mpr (.inr hb))
  refine returns_of_turns (P := ParameterDue) (fun _ => 0) (fun s hs => booting_eq_false (by simp [hs.phase]))
    (fun s t h hs => ⟨h.phase.trans hs.phase, h.cmd ▸ hs.cmd, h.incoming ▸ hs.incoming⟩) (fun s hs => ?_)
    ⟨hp, hcmd, hincoming⟩
  obtain ⟨t, ht, hreturns | ⟨hdue, hsched⟩⟩ := hs.turn
  · exact ⟨t, ht, .inl hreturns⟩
  · exact ⟨t, ht, .inr ⟨hdue, fun hnil => absurd hnil hsched⟩⟩

/-- Settles O53: inside the capture every turn is nearer to its end, and the schedule cannot put the signal off. -/
theorem capturesReturn : Obligations.CapturesReturn := by
  intro s hc hsignal
  have hdue : SignalDue s := by
    rcases hsignal with hstop | ⟨hdir, hon⟩
    · exact .stop (mem_incoming.mpr hstop)
    · exact .fill hdir hon
  refine returns_of_turns (P := CaptureDue) State.captureTurns (fun _ hs => booting_of_capturing hs.capturing)
    (fun _ _ h hs => ⟨?_, hs.signal.of_outlook h⟩) (fun _ hs => hs.turn) ⟨hc, hdue⟩
  rw [State.capturing, h.phase]
  exact hs.capturing

end Sys2Proof.Machine
